-- ==== Sys2Proof/Word.lean ====
section
/-! DEFINITION. The words and numbers of the CV416: the 32-bit port word, the numbers of heads, zones, sockets and
slots, the two nozzles of a head, the 24 sensor lines, and who makes an access (00_scope, Terms; R1). -/

namespace Sys2Proof

/-- One word of a bus port or of the Deck Command Memory: 32 bits, no byte lanes (R1). -/
abbrev Word := BitVec 32

/-- A word address of the Deck Command Memory, 0000h to 3FFFh (R1). -/
abbrev Addr := BitVec 14

/-- A head number, 0 to 3. -/
abbrev HeadIx := Fin 4

/-- A zone number, 0 to 15. -/
abbrev ZoneIx := Fin 16

/-- A socket number, 0 to 15. -/
abbrev SocketIx := Fin 16

/-- A ring slot number, 0 to 15; ring positions count modulo 16. -/
abbrev SlotIx := Fin 16

/-- A bin class, 0 to 7. -/
abbrev ClassIx := Fin 8

/-- A unit tag; the controller gives 1 to 4095 (R125). -/
abbrev Tag := BitVec 12

/-- A sequence tag, counted modulo 256 (R35). -/
abbrev Seq := BitVec 8

/-- The two nozzles of a head (R86). -/
inductive NozzleId where
  | a
  | b
  deriving DecidableEq, Repr

/-- The nozzle that is not this one (R77, OTHER). -/
def NozzleId.other : NozzleId → NozzleId
  | .a => .b
  | .b => .a

/-- One thing for each of a head's two nozzles. -/
structure PerNozzle (α : Type) where
  a : α
  b : α
  deriving DecidableEq, Repr

/-- What is kept for nozzle n. -/
def PerNozzle.get {α : Type} (p : PerNozzle α) : NozzleId → α
  | .a => p.a
  | .b => p.b

/-- The pair with x kept for nozzle n. -/
def PerNozzle.set {α : Type} (p : PerNozzle α) (n : NozzleId) (x : α) : PerNozzle α :=
  match n with
  | .a => { p with a := x }
  | .b => { p with b := x }

/-- The 24 sensor lines: a presence line per socket, a grip line per nozzle (08, opening). -/
inductive Line where
  | presence (i : SocketIx)
  | grip (h : HeadIx) (n : NozzleId)
  deriving DecidableEq, Repr

/-- The two bus ports (R1). -/
inductive Port where
  | controller
  | drive
  deriving DecidableEq, Repr

/-- Who makes an access: the controller, or the drive of the head whose number the access carries (R1). -/
inductive Source where
  | controller
  | drive (h : HeadIx)
  deriving DecidableEq, Repr

/-- The bus port an access comes through. -/
def Source.port : Source → Port
  | .controller => .controller
  | .drive _ => .drive

/-- The four head numbers in ascending order. -/
def allHeads : List HeadIx := [0, 1, 2, 3]

/-- The numbers 0 to 15 in ascending order: zones, sockets, slots. -/
def all16 : List (Fin 16) := [0, 1, 2, 3, 4, 5, 6, 7, 8, 9, 10, 11, 12, 13, 14, 15]

/-- The eight classes in ascending order. -/
def allClasses : List ClassIx := [0, 1, 2, 3, 4, 5, 6, 7]

/-- The two nozzles, A first. -/
def allNozzles : List NozzleId := [.a, .b]

/-- The 24 lines: presence lines in ascending order, then the grip lines head by head. -/
def allLines : List Line :=
  all16.map Line.presence ++ allHeads.flatMap (fun h => [Line.grip h .a, Line.grip h .b])

end Sys2Proof
end

