-- ==== Sys2Proof/Syntax.lean ====
section
/-! DEFINITION. The commands of the CV416: one constructor for each row of spec/opcode_table.json.

Operands are what the row's access or event carries (log 9). A write carries the bits of its data word that the row
does not fix, so that the word that reaches memory is known whole: 24 bits below a control word's command code, 28
bits below a socket command's code, 31 bits below a header's POST bit, 30 bits below a report's OUTCOME. -/

namespace Sys2Proof

/-- One step of the part, as the table of operations and events lists them. -/
inductive Instr where
  /-- Reset asserted and released (R15). -/
  | powerOnReset
  /-- The tick; bit i of presence is the raw level of socket i's line, bit 2h + n of grip that of nozzle n of head h,
  n being 0 for A and 1 for B (R139, R140). -/
  | tick (presence : BitVec 16) (grip : BitVec 8)
  /-- The filtered level of a line takes the sampled level (R140). -/
  | filteredLevelChange (l : Line)
  /-- A head's hold timer expires (R75). -/
  | holdTimerExpiry (h : HeadIx)
  /-- A SEATING socket's seat window expires (R119). -/
  | seatWindowExpiry (i : SocketIx)
  /-- A VACATING socket's vacate window expires (R121). -/
  | vacateWindowExpiry (i : SocketIx)
  /-- A DISTURBED line's disturbance timer expires (R150). -/
  | disturbanceTimerExpiry (l : Line)
  /-- A RECOVERING line's recover countdown completes (R149). -/
  | recoverCountdownExpiry (l : Line)
  /-- Control word, code 01h (R29). -/
  | modeRun (body : BitVec 24)
  /-- Control word, code 02h (R32). -/
  | modeSetup (body : BitVec 24)
  /-- Control word, code 03h (R13). -/
  | deckReset (body : BitVec 24)
  /-- Control word, code 10h (R156). -/
  | headOnline (body : BitVec 24)
  /-- Control word, code 11h (R157). -/
  | headOffline (body : BitVec 24)
  /-- Control word, code 12h (R165). -/
  | headRecover (body : BitVec 24)
  /-- Control word, code 13h (R162). -/
  | mask (body : BitVec 24)
  /-- Control word, code 14h (R163). -/
  | maskClear (body : BitVec 24)
  /-- Control word, code 20h (R137). -/
  | drain (body : BitVec 24)
  /-- Control word, code 21h (R137). -/
  | undrain (body : BitVec 24)
  /-- Control word, code 22h (R136). -/
  | clearTallies (body : BitVec 24)
  /-- Control word, code 30h (R174). -/
  | clearCapture (body : BitVec 24)
  /-- Control word, code 31h (R176). -/
  | clearCounters (body : BitVec 24)
  /-- A control word that names no command, or a HEAD RECOVER with an action that names none (R12). -/
  | badCommand (w : Word)
  /-- Controller write of the profile page word (R22). -/
  | profilePageWrite (w : Word)
  /-- Controller write of the profile address word (R23). -/
  | profileAddressWrite (w : Word)
  /-- Controller write of the profile data word (R24). -/
  | profileDataWrite (w : Word)
  /-- Controller read of the profile data word (R25). -/
  | profileDataRead
  /-- Controller read of status word 0 (R169). -/
  | statusWord0Read
  /-- Socket command, code 1 (R108). -/
  | enable (i : SocketIx) (body : BitVec 28)
  /-- Socket command, code 2 (R109). -/
  | disable (i : SocketIx) (body : BitVec 28)
  /-- Socket command, code 3 (R110). -/
  | start (i : SocketIx) (body : BitVec 28)
  /-- Socket command, code 4 (R111). -/
  | result (i : SocketIx) (body : BitVec 28)
  /-- Socket command, code 5 (R112). -/
  | abort (i : SocketIx) (body : BitVec 28)
  /-- Socket command, code 6 (R113). -/
  | clearFault (i : SocketIx) (body : BitVec 28)
  /-- A socket command word whose command or result code names nothing (R107). -/
  | socketBadCommand (i : SocketIx) (w : Word)
  /-- Controller write of leg word j + 1 of slot k of head h (R41 to R43). -/
  | legWrite (h : HeadIx) (k : SlotIx) (j : Fin 7) (w : Word)
  /-- Controller header write with POST set (R46). -/
  | post (h : HeadIx) (k : SlotIx) (body : BitVec 31)
  /-- Controller header write with POST clear, meant for a live order (R52). -/
  | withdraw (h : HeadIx) (k : SlotIx) (body : BitVec 31)
  /-- Controller header write with POST clear, meant for a finished slot (R54). -/
  | retire (h : HeadIx) (k : SlotIx) (body : BitVec 31)
  /-- A drive's read of header word k of its own ring (R8, R59 to R62). -/
  | fetch (h : HeadIx) (k : SlotIx)
  /-- A drive's write of its own report word with OUTCOME LEG DONE (R88). -/
  | legDone (h : HeadIx) (body : BitVec 30)
  /-- A drive's write of its own report word with OUTCOME LEG FAILED (R98). -/
  | legFailed (h : HeadIx) (body : BitVec 30)
  /-- A write on the Drive Port carrying head number h that the map suppresses (R9). -/
  | driveProtect (h : HeadIx) (a : Addr) (w : Word)
  /-- Controller write of head h's report word (R10). -/
  | controllerReportWrite (h : HeadIx) (w : Word)
  /-- A write that reaches memory and changes no state of the part (R4, R44). -/
  | passedWrite (src : Source) (a : Addr) (w : Word)
  /-- Controller header write that the slot's state makes a controller PROTECT (R45, R53). -/
  | headerWriteSuppressed (h : HeadIx) (k : SlotIx) (w : Word)
  /-- A drive's write of its own report word with OUTCOME 0 or 3 (R85). -/
  | malformedReport (h : HeadIx) (w : Word)
  deriving DecidableEq, Repr

end Sys2Proof
end

