-- ==== Sys2Proof/Config.lean ====
section
/-! DEFINITION. What the part fixes for good, and the one value its manual leaves free. -/

namespace Sys2Proof.Config

/-- Words of the Deck Command Memory (00_scope, the part in the handler). -/
def dcmWords : Nat := 16384

/-- The most the 8-bit counters reach (00_scope, Conventions; R175). -/
def counterTop : BitVec 8 := 255

/-- The most a line's run count reaches (R140). -/
def runTop : BitVec 4 := 15

/-- Ticks in the 10 ms unit of the hold limit and the recover count (R75, R144). -/
def ticksPerTen : Nat := 10

/-- FREE VALUE. Which of several events due at one tick is taken next, at the n-th such choice.
R152 and R173 leave the order open. Nothing is known of this function (log 4). -/
opaque eventChoice : Nat → Nat

end Sys2Proof.Config
end

