-- ==== Sys2Proof/Machine/Operands.lean ====
section
/-! DEFINITION. What the part reads out of an access: the fields of the words it takes (11_word_formats) and the
region of the command area that an address falls in (R4). -/

namespace Sys2Proof.Machine

/-- The bit of w at place n. -/
def bitAt (w : Word) (n : Nat) : Bool := w.getLsbD n

/-! ### Header and leg words (11.1; R35, R36) -/

def headerPost (w : Word) : Bool := bitAt w 31
def headerNowait (w : Word) : Bool := bitAt w 30
def headerSeq (w : Word) : Seq := w.extractLsb' 16 8

/-- The header word with POST set and the given lower bits. -/
def postHeader (body : BitVec 31) : Word := 1#1 ++ body

/-- The header word with POST clear and the given lower bits. -/
def clearHeader (body : BitVec 31) : Word := 0#1 ++ body

/-- A leg's ACTION (R36); the fourth value names no action. -/
inductive Action where
  | travel
  | pick
  | place
  | unnamed
  deriving DecidableEq, Repr

/-- A leg's NOZZLE (R36). -/
inductive NozzleSel where
  | a
  | b
  | active
  | other
  deriving DecidableEq, Repr

/-- A captured leg, with its fields as written (R36). -/
structure Leg where
  more : Bool
  action : Action
  zone : ZoneIx
  socket : SocketIx
  nozzle : NozzleSel
  tag : Tag
  deriving DecidableEq, Repr

def legAction (w : Word) : Action :=
  match (w.extractLsb' 28 2).toNat with
  | 0 => .travel
  | 1 => .pick
  | 2 => .place
  | _ => .unnamed

def legNozzleSel (w : Word) : NozzleSel :=
  match (w.extractLsb' 16 2).toNat with
  | 0 => .a
  | 1 => .b
  | 2 => .active
  | _ => .other

/-- The six fields of a leg word (11.1). -/
def legOfWord (w : Word) : Leg where
  more := bitAt w 31
  action := legAction w
  zone := (w.extractLsb' 24 4).toFin
  socket := (w.extractLsb' 20 4).toFin
  nozzle := legNozzleSel w
  tag := w.extractLsb' 0 12

/-! ### Report word (11.1; R83) -/

/-- OUTCOME of a report; the two other values of the field are malformed. -/
inductive ReportOutcome where
  | legDone
  | legFailed
  | malformed
  deriving DecidableEq, Repr

def reportOutcome (w : Word) : ReportOutcome :=
  match (w.extractLsb' 30 2).toNat with
  | 1 => .legDone
  | 2 => .legFailed
  | _ => .malformed

def reportSlot (w : Word) : SlotIx := (w.extractLsb' 24 4).toFin
def reportLeg (w : Word) : Nat := (w.extractLsb' 20 3).toNat
def reportDriveCode (w : Word) : BitVec 8 := w.extractLsb' 0 8

/-- The report word with OUTCOME LEG DONE and the given lower bits. -/
def doneReport (body : BitVec 30) : Word := 1#2 ++ body

/-- The report word with OUTCOME LEG FAILED and the given lower bits. -/
def failedReport (body : BitVec 30) : Word := 2#2 ++ body

/-! ### Control word (11.4; R11, R12) -/

/-- The commands of R11. -/
inductive Command where
  | modeRun
  | modeSetup
  | deckReset
  | headOnline
  | headOffline
  | headRecover
  | mask
  | maskClear
  | drain
  | undrain
  | clearTallies
  | clearCapture
  | clearCounters
  deriving DecidableEq, Repr

/-- The numeric code of a command (11.4). -/
def Command.code : Command → BitVec 8
  | .modeRun => 0x01
  | .modeSetup => 0x02
  | .deckReset => 0x03
  | .headOnline => 0x10
  | .headOffline => 0x11
  | .headRecover => 0x12
  | .mask => 0x13
  | .maskClear => 0x14
  | .drain => 0x20
  | .undrain => 0x21
  | .clearTallies => 0x22
  | .clearCapture => 0x30
  | .clearCounters => 0x31

def allCommands : List Command :=
  [.modeRun, .modeSetup, .deckReset, .headOnline, .headOffline, .headRecover, .mask, .maskClear, .drain, .undrain,
   .clearTallies, .clearCapture, .clearCounters]

/-- The command a code names, if any (R12). -/
def commandOfCode (c : BitVec 8) : Option Command := allCommands.find? (fun k => k.code == c)

def ctlCode (w : Word) : BitVec 8 := w.extractLsb' 24 8
def ctlHead (w : Word) : HeadIx := (w.extractLsb' 20 2).toFin
def ctlZone (w : Word) : ZoneIx := (w.extractLsb' 16 4).toFin
def ctlFetchSlot (w : Word) : SlotIx := (w.extractLsb' 12 4).toFin
def ctlSeq (w : Word) : Seq := w.extractLsb' 4 8

/-- The control word of command c with the given lower 24 bits. -/
def controlWord (c : Command) (body : BitVec 24) : Word := c.code ++ body

/-- An action of HEAD RECOVER for one nozzle (R165). -/
inductive NozzleAction where
  | leave
  | keep
  | discard
  deriving DecidableEq, Repr

def nozzleActionOfCode (c : BitVec 2) : Option NozzleAction :=
  match c.toNat with
  | 0 => some .leave
  | 1 => some .keep
  | 2 => some .discard
  | _ => none

/-- The action HEAD RECOVER's word gives for a nozzle; none where the value names no action (R12, R165). -/
def ctlAction (w : Word) : NozzleId → Option NozzleAction
  | .a => nozzleActionOfCode (w.extractLsb' 6 2)
  | .b => nozzleActionOfCode (w.extractLsb' 4 2)

/-- The command that a control word gives its owning block; none is BAD COMMAND (R12). -/
def controlCommand (w : Word) : Option Command :=
  match commandOfCode (ctlCode w) with
  | some .headRecover =>
    if (ctlAction w .a).isSome && (ctlAction w .b).isSome then some .headRecover else none
  | c => c

/-! ### Socket command word (11.3; R107) -/

/-- The socket commands of R107. -/
inductive SocketCommand where
  | enable
  | disable
  | start
  | result
  | abort
  | clearFault
  deriving DecidableEq, Repr

def SocketCommand.code : SocketCommand → BitVec 4
  | .enable => 1
  | .disable => 2
  | .start => 3
  | .result => 4
  | .abort => 5
  | .clearFault => 6

def allSocketCommands : List SocketCommand := [.enable, .disable, .start, .result, .abort, .clearFault]

def socketCommandOfCode (c : BitVec 4) : Option SocketCommand := allSocketCommands.find? (fun k => k.code == c)

/-- A unit's result as RESULT gives it and as the record holds it (R107, R125). -/
inductive UnitResult where
  | cls (c : ClassIx)
  | retest
  deriving DecidableEq, Repr

/-- The result a result code names; 9 to 15 name none (11.3). -/
def resultOfCode (c : BitVec 4) : Option UnitResult :=
  if h : c.toNat < 8 then some (.cls ⟨c.toNat, h⟩) else if c.toNat = 8 then some .retest else none

def socketWordCode (w : Word) : BitVec 4 := w.extractLsb' 28 4
def socketWordResult (w : Word) : Option UnitResult := resultOfCode (w.extractLsb' 0 4)

/-- The command a socket command word gives the Socket Table; none is BAD COMMAND (R107, check 1). -/
def socketWordCommand (w : Word) : Option SocketCommand :=
  match socketCommandOfCode (socketWordCode w) with
  | some .result => if (socketWordResult w).isSome then some .result else none
  | c => c

/-- The socket command word of command c with the given lower 28 bits. -/
def socketWord (c : SocketCommand) (body : BitVec 28) : Word := c.code ++ body

/-! ### Profile words (11.5; R17 to R23) -/

/-- The four profile pages (02, 2.1). -/
inductive Page where
  | zone
  | socket
  | head
  | limits
  deriving DecidableEq, Repr

/-- The page the page word names; each value names one (R22). -/
def pageOfWord (w : Word) : Page :=
  match (w.extractLsb' 0 2).toNat with
  | 0 => .zone
  | 1 => .socket
  | 2 => .head
  | _ => .limits

def Page.number : Page → BitVec 2
  | .zone => 0
  | .socket => 1
  | .head => 2
  | .limits => 3

/-- The last entry of a page (02, 2.1). -/
def Page.last : Page → Nat
  | .zone => 15
  | .socket => 15
  | .head => 3
  | .limits => 7

def addressDown (w : Word) : Bool := bitAt w 31
def addressEntry (w : Word) : Fin 16 := (w.extractLsb' 0 4).toFin

/-- The types of zone that a type field can name (R17). -/
inductive ZoneType where
  | unused
  | park
  | transit
  | input
  | site
  | bin
  deriving DecidableEq, Repr

/-- The type a stored type field names; 6 and 7 name none (R17). -/
def zoneTypeOfCode (c : BitVec 3) : Option ZoneType :=
  match c.toNat with
  | 0 => some .unused
  | 1 => some .park
  | 2 => some .transit
  | 3 => some .input
  | 4 => some .site
  | 5 => some .bin
  | _ => none

/-- A ZONE entry, each field as stored (R16, R17). -/
structure ZoneEntry where
  type : BitVec 3
  classes : BitVec 8
  neighbours : BitVec 16
  deriving DecidableEq, Repr

/-- A SOCKET entry (R18). -/
structure SocketEntry where
  enabled : Bool
  zone : ZoneIx
  deriving DecidableEq, Repr

/-- A HEAD entry (R19); bit 0 to 5 of actions is set for HALT, for STRAY, MISPICK, MISPLACE, SEAT, REPORT, OPERATOR. -/
structure HeadEntry where
  present : Bool
  twoNozzles : Bool
  actions : BitVec 6
  reach : BitVec 16
  deriving DecidableEq, Repr

/-- The LIMITS page (R20). -/
structure Limits where
  divisor : BitVec 16
  debounce : BitVec 4
  seatWindow : BitVec 8
  disturb : BitVec 8
  recover : BitVec 4
  hold : BitVec 8
  retest : BitVec 2
  overflowClass : BitVec 4
  rotate : Bool
  captureAlert : Bool
  yieldAlert : Bool
  deriving DecidableEq, Repr

/-- The fields of a written ZONE entry; the other bits are discarded (R16). -/
def zoneEntryOfWord (w : Word) : ZoneEntry where
  type := w.extractLsb' 29 3
  classes := w.extractLsb' 16 8
  neighbours := w.extractLsb' 0 16

def socketEntryOfWord (w : Word) : SocketEntry where
  enabled := bitAt w 31
  zone := (w.extractLsb' 0 4).toFin

def headEntryOfWord (w : Word) : HeadEntry where
  present := bitAt w 31
  twoNozzles := bitAt w 30
  actions := w.extractLsb' 16 6
  reach := w.extractLsb' 0 16

/-- The LIMITS page after entry e is written with w (R16, R20; 11.5). -/
def limitsWithEntry (m : Limits) (e : Nat) (w : Word) : Limits :=
  match e with
  | 0 => { m with divisor := w.extractLsb' 0 16 }
  | 1 => { m with debounce := w.extractLsb' 0 4 }
  | 2 => { m with seatWindow := w.extractLsb' 0 8 }
  | 3 => { m with disturb := w.extractLsb' 0 8 }
  | 4 => { m with recover := w.extractLsb' 0 4 }
  | 5 => { m with hold := w.extractLsb' 0 8 }
  | 6 => { m with retest := w.extractLsb' 0 2, overflowClass := w.extractLsb' 4 4, rotate := bitAt w 8 }
  | 7 => { m with captureAlert := bitAt w 0, yieldAlert := bitAt w 1 }
  | _ => m

/-! ### The map of the command area (R4) -/

/-- The regions of R4; plain is 0400h to 3FFFh. -/
inductive Region where
  | control
  | profilePage
  | profileAddress
  | profileData
  | profileResult
  | status (n : Fin 64)
  | socketCommand (i : SocketIx)
  | socketState (i : SocketIx)
  | socketUnit (i : SocketIx)
  | socketNote (i : SocketIx)
  | disposition (h : HeadIx) (k : SlotIx)
  | report (h : HeadIx)
  | header (h : HeadIx) (k : SlotIx)
  | leg (h : HeadIx) (k : SlotIx) (j : Fin 7)
  | unassigned
  | plain
  deriving DecidableEq, Repr

def controlAddr : Nat := 0x0000
def profilePageAddr : Nat := 0x0010
def profileAddressAddr : Nat := 0x0011
def profileDataAddr : Nat := 0x0012
def profileResultAddr : Nat := 0x0013
def statusAddr (n : Fin 64) : Nat := 0x0040 + n.val
def socketCommandAddr (i : SocketIx) : Nat := 0x0080 + 4 * i.val
def socketStateAddr (i : SocketIx) : Nat := 0x0081 + 4 * i.val
def socketUnitAddr (i : SocketIx) : Nat := 0x0082 + 4 * i.val
def dispositionAddr (h : HeadIx) (k : SlotIx) : Nat := 0x00C0 + 16 * h.val + k.val
def reportAddr (h : HeadIx) : Nat := 0x0100 + h.val
def headerAddr (h : HeadIx) (k : SlotIx) : Nat := 0x0200 + 128 * h.val + 8 * k.val
/-- Leg j of the record stands in leg word j + 1 of the slot (R34, R37). -/
def legAddr (h : HeadIx) (k : SlotIx) (j : Fin 7) : Nat := headerAddr h k + 1 + j.val

/-- The region of the ring word n words after 0200h (R34). -/
def ringRegion (n : Nat) : Region :=
  let h : HeadIx := Fin.ofNat 4 (n / 128)
  let k : SlotIx := Fin.ofNat 16 (n / 8 % 16)
  match n % 8 with
  | 0 => .header h k
  | w + 1 => .leg h k (Fin.ofNat 7 w)

/-- The region of the socket word n words after 0080h (R4). -/
def socketRegion (n : Nat) : Region :=
  let i : SocketIx := Fin.ofNat 16 (n / 4)
  match n % 4 with
  | 0 => .socketCommand i
  | 1 => .socketState i
  | 2 => .socketUnit i
  | _ => .socketNote i

/-- The region an address falls in (R4). -/
def regionOf (addr : Addr) : Region :=
  let a := addr.toNat
  if a = 0x0000 then .control
  else if a = 0x0010 then .profilePage
  else if a = 0x0011 then .profileAddress
  else if a = 0x0012 then .profileData
  else if a = 0x0013 then .profileResult
  else if a < 0x0040 then .unassigned
  else if a < 0x0080 then .status (Fin.ofNat 64 (a - 0x0040))
  else if a < 0x00C0 then socketRegion (a - 0x0080)
  else if a < 0x0100 then .disposition (Fin.ofNat 4 ((a - 0x00C0) / 16)) (Fin.ofNat 16 (a - 0x00C0))
  else if a < 0x0104 then .report (Fin.ofNat 4 (a - 0x0100))
  else if a < 0x0200 then .unassigned
  else if a < 0x0400 then ringRegion (a - 0x0200)
  else .plain

/-- The drive writes that the map suppresses: R4's "suppressed, PROTECT" column, R7, R9. -/
def driveWriteSuppressed (h : HeadIx) : Region → Bool
  | .report g => g != h
  | .unassigned => false
  | .plain => false
  | _ => true

end Sys2Proof.Machine
end

