-- ==== Sys2Proof/Machine/State.lean ====
section
/-! DEFINITION. The state of the CV416, block by block, as plain data; the ways a step can stop; the state after
power-on reset (R15). -/

namespace Sys2Proof.Machine

/-! ### Port Block -/

/-- The results of a control command (R14). -/
inductive ControlResult where
  | accepted
  | mode
  | state
  | zone
  | occupied
  | profile
  | busy
  | units
  | badCommand
  deriving DecidableEq, Repr

/-! ### Profile Store -/

/-- The operating modes (R28). -/
inductive Mode where
  | setup
  | run
  deriving DecidableEq, Repr

/-- The page/address counter (02, 2.2). -/
structure Counter where
  page : Page
  entry : Fin 16
  down : Bool
  overrun : Bool
  deriving DecidableEq, Repr

/-- The results of the profile result word (R27). -/
inductive ProfileCode where
  | accepted
  | mode
  | validation
  deriving DecidableEq, Repr

/-- The four stored fields of the profile result word; OVERRUN is the counter's (R27). -/
structure ProfileResult where
  code : ProfileCode
  page : Page
  entry : Fin 16
  check : BitVec 8
  deriving DecidableEq, Repr

/-! ### Ring Shadow -/

/-- The refusal reasons of a REFUSED order (11.2). -/
inductive Reason where
  | malformed
  | sequence
  | reach
  | path
  | socket
  | nozzle
  | dupTag
  | bin
  | retest
  | deadlock
  | timeout
  | busy
  | withdrawn
  | offline
  | drain
  deriving DecidableEq, Repr

/-- The abort codes of an ABORTED order (11.2). -/
inductive AbortCode where
  | legFail
  | mispick
  | misplace
  | stuck
  deriving DecidableEq, Repr

/-- The state of an order record with its disposition reason, which only REFUSED and ABORTED have (R38, R39). -/
inductive OrderState where
  | free
  | filling
  | posted
  | socketWait
  | zoneWait
  | cleared
  | done
  | refused (r : Reason)
  | aborted (c : AbortCode)
  deriving DecidableEq, Repr

/-- The order record of one slot (R38). legs[j] is the captured leg of leg word j + 1. resolved is the nozzle that
ACTIVE resolved to; OTHER is the other one. -/
structure Order where
  state : OrderState
  legs : Vector (Option Leg) 7
  seq : Option Seq
  nowait : Option Bool
  completed : Nat
  resolved : Option NozzleId
  blocker : Option HeadIx
  skipGiven : Bool
  deriving DecidableEq, Repr

/-- A FREE record: no captured legs and every other field cleared (R38, R54). -/
def Order.freed : Order where
  state := .free
  legs := Vector.replicate 7 none
  seq := none
  nowait := none
  completed := 0
  resolved := none
  blocker := none
  skipGiven := false

/-! ### Clearance Unit -/

/-- One record of the Zone Table; the wait list is oldest first (R68, R69). -/
structure ZoneRec where
  holder : Option HeadIx
  waiters : List HeadIx
  deriving DecidableEq, Repr

/-- A head's hold timer: stopped, running with so many ticks left, or running with a hold limit of 0, which counts
nothing and never expires (R75). -/
inductive HoldTimer where
  | stopped
  | running (left : Nat)
  | unlimited
  deriving DecidableEq, Repr

/-! ### Units, nozzles, sockets -/

/-- A unit record (R125). -/
structure UnitRec where
  tag : Tag
  insertions : BitVec 2
  lastSocket : Option SocketIx
  result : Option UnitResult
  deriving DecidableEq, Repr

/-- A line's sensor sub-state with its one timer, in ticks left (R144): QUIET has it stopped, DISTURBED runs the
disturbance timer, RECOVERING the recover countdown. -/
inductive Sensor where
  | quiet
  | disturbed (left : Nat)
  | recovering (left : Nat)
  deriving DecidableEq, Repr

/-- A nozzle's state and unit together: the unit is absent in EMPTY, present in HOLDING, optional in SUSPECT (R86). -/
inductive NozzleContent where
  | empty
  | holding (u : UnitRec)
  | suspect (u : Option UnitRec)
  deriving DecidableEq, Repr

/-- A nozzle record (R86). -/
structure Nozzle where
  content : NozzleContent
  sensor : Sensor
  deriving DecidableEq, Repr

/-- The fault reasons of a socket (R102). -/
inductive FaultReason where
  | seat
  | stuck
  | lostDevice
  | stray
  | legFail
  | mispick
  | misplace
  deriving DecidableEq, Repr

/-- A socket's state with what it holds in that state: its unit (R103), its fault reason, its window head and the
ticks left of its window (R102, R118, R120). -/
inductive Phase where
  | disabled
  | empty
  | seating (u : UnitRec) (windowHead : HeadIx) (left : Nat)
  | loaded (u : UnitRec)
  | testing (u : UnitRec)
  | tested (u : UnitRec)
  | vacating (windowHead : HeadIx) (left : Nat)
  | fault (r : FaultReason) (u : Option UnitRec)
  deriving DecidableEq, Repr

/-- The results of a socket command (R102, R107). -/
inductive SocketResult where
  | accepted
  | state
  | mode
  | busy
  | notSeated
  | stillPresent
  | badCommand
  deriving DecidableEq, Repr

/-- A socket record (R102). -/
structure Socket where
  phase : Phase
  reservation : Option (HeadIx × SlotIx)
  sensor : Sensor
  lastResult : SocketResult
  deriving DecidableEq, Repr

/-! ### Line Monitor -/

/-- One line's filter: the raw level at the last sample, the filtered level, the run count, and whether the run
count reached the debounce count at the last tick with the change not yet taken (R140; log 3, log 7). -/
structure LineFilter where
  raw : Bool
  filtered : Bool
  run : BitVec 4
  changeDue : Bool
  deriving DecidableEq, Repr

def LineFilter.off : LineFilter := { raw := false, filtered := false, run := 0, changeDue := false }

/-! ### Head Control -/

/-- The mask causes, in the order of their bits (R153; 11.5, 11.6). -/
inductive Cause where
  | stray
  | mispick
  | misplace
  | seat
  | report
  | operator
  deriving DecidableEq, Repr

/-- An entry of a stray source set (R145). -/
inductive StrayEntry where
  | opened
  | faulted
  deriving DecidableEq, Repr

/-- A head record (R153). Bit n of causes is the n-th cause of Cause. stray[i] is the entry for socket i's line,
stray[16] and stray[17] those for the grip lines of the head's own nozzles A and B. -/
structure HeadRec where
  online : Bool
  faulted : Bool
  resting : Option ZoneIx
  causes : BitVec 6
  stray : Vector (Option StrayEntry) 18
  deriving DecidableEq, Repr

/-- The record of a head after a reset, and of an OFFLINE head (R155, R157). -/
def HeadRec.offDeck : HeadRec where
  online := false
  faulted := false
  resting := none
  causes := 0
  stray := Vector.replicate 18 none

/-! ### Status and Capture -/

/-- The kinds of captured fault (R172). -/
inductive FaultKind where
  | seat
  | stuck
  | lostDevice
  | stray
  | drop
  | mispick
  | misplace
  | legFail
  | reportError
  | protect
  | fetchOrder
  | sequence
  deriving DecidableEq, Repr

/-- A fault as a block hands it to the capture table (R172). -/
structure FaultReport where
  kind : FaultKind
  head : Option HeadIx
  socket : Option SocketIx
  slot : Option SlotIx
  detail : BitVec 8
  deriving DecidableEq, Repr

/-- A valid entry of the capture table (R172). -/
structure CaptureEntry where
  report : FaultReport
  repeats : BitVec 8
  deriving DecidableEq, Repr

/-- A head's error counters and sequence flags (R175). -/
structure HeadCounters where
  sequenceErrors : BitVec 8
  protect : BitVec 8
  fetchOrder : BitVec 8
  reportErrors : BitVec 8
  live : Bool
  sticky : Bool
  deriving DecidableEq, Repr

def HeadCounters.zero : HeadCounters where
  sequenceErrors := 0
  protect := 0
  fetchOrder := 0
  reportErrors := 0
  live := false
  sticky := false

/-- The whole part, the memory behind it, and the commands waiting. -/
structure State where
  /-- commands waiting, first in, first out -/
  pending : List Instr
  /-- R2 -/
  lastGrant : Port
  /-- R14: the code of the last control word -/
  controlCode : BitVec 8
  /-- R14: its result -/
  controlResult : ControlResult
  /-- the word last returned at the Controller Port (R1, R5; log 6) -/
  controllerData : Word
  /-- the word last returned at the Drive Port (R1, R5; log 6) -/
  driveData : Word
  /-- the Deck Command Memory: (word address, word), addresses rising, no entry equal to what an unlisted word reads
  as (log 5) -/
  dcm : List (Nat × Word)
  /-- R28 -/
  mode : Mode
  /-- R17 -/
  zonePage : Vector ZoneEntry 16
  /-- R18 -/
  socketPage : Vector SocketEntry 16
  /-- R19 -/
  headPage : Vector HeadEntry 4
  /-- R20 -/
  limits : Limits
  /-- R22 to R26 -/
  counter : Counter
  /-- R27 -/
  profileResult : ProfileResult
  /-- R21 -/
  divisorInForce : BitVec 16
  /-- R21 -/
  debounceInForce : BitVec 4
  /-- R38: slots[h][k] -/
  slots : Vector (Vector Order 16) 4
  /-- R40 -/
  fetchIndex : Vector SlotIx 4
  /-- R47 -/
  expectedSeq : Vector Seq 4
  /-- R68 -/
  zones : Vector ZoneRec 16
  /-- R69 -/
  socketWaiters : Vector (List HeadIx) 16
  /-- R75 -/
  holdTimers : Vector HoldTimer 4
  /-- R86 -/
  nozzles : Vector (PerNozzle Nozzle) 4
  /-- R87 -/
  pointers : Vector NozzleId 4
  /-- R102 -/
  sockets : Vector Socket 16
  /-- R131 -/
  pendingTags : List Tag
  /-- R135 -/
  picked : BitVec 32
  /-- R135 -/
  discarded : BitVec 32
  /-- R135 -/
  delivered : Vector (BitVec 32) 8
  /-- R137 -/
  drain : Bool
  /-- R139 -/
  dividerCount : Nat
  /-- R140: the presence lines -/
  presence : Vector LineFilter 16
  /-- R140: the grip lines -/
  grips : Vector (PerNozzle LineFilter) 4
  /-- R153 -/
  heads : Vector HeadRec 4
  /-- R169 -/
  snapshot : Vector Word 64
  /-- R172: entry i, where it is valid -/
  capture : Vector (Option CaptureEntry) 4
  /-- R172 -/
  overflow : Bool
  /-- R172: bit h for head h -/
  headsSeen : BitVec 4
  /-- R175 -/
  counters : Vector HeadCounters 4
  /-- R175 -/
  controllerProtect : BitVec 8
  /-- R175 -/
  profileRefused : BitVec 8
  /-- the model's own: how many free choices have been drawn (log 4) -/
  freeDraws : Nat
  deriving DecidableEq, Repr

/-- The ways a step can stop with a fault: none. R1 has every access complete, and each event and expiry has an
effect the spec gives, so nobody raises one (log 13); safe and unsafe do not arise. -/
inductive Fault where
  deriving DecidableEq, Repr

/-- The ways a step can be refused. -/
inductive Refusal where
  /-- Raised by exec for a command that has no meaning yet, and by nothing else. Safe: the model stops where the part
  goes on. -/
  | notModelled (mnemonic : String)
  deriving DecidableEq, Repr

/-- The LIMITS page after power-on reset (R20, last column). -/
def Limits.default : Limits where
  divisor := 50000
  debounce := 4
  seatWindow := 50
  disturb := 20
  recover := 5
  hold := 200
  retest := 2
  overflowClass := 7
  rotate := true
  captureAlert := true
  yieldAlert := true

/-- The machine right after power-on reset (R15, R33, R55, R81, R101, R105, R141, R155, R172, R175). The snapshot is
the one taken of this state; that its words are all zero is shown in Tests. -/
def State.reset : State where
  pending := []
  lastGrant := .drive
  controlCode := 0
  controlResult := .accepted
  controllerData := 0
  driveData := 0
  dcm := []
  mode := .setup
  zonePage := Vector.replicate 16 { type := 0, classes := 0, neighbours := 0 }
  socketPage := Vector.replicate 16 { enabled := false, zone := 0 }
  headPage := Vector.replicate 4 { present := false, twoNozzles := false, actions := 0, reach := 0 }
  limits := .default
  counter := { page := .zone, entry := 0, down := false, overrun := false }
  profileResult := { code := .accepted, page := .zone, entry := 0, check := 0 }
  divisorInForce := 50000
  debounceInForce := 4
  slots := Vector.replicate 4 (Vector.replicate 16 Order.freed)
  fetchIndex := Vector.replicate 4 0
  expectedSeq := Vector.replicate 4 0
  zones := Vector.replicate 16 { holder := none, waiters := [] }
  socketWaiters := Vector.replicate 16 []
  holdTimers := Vector.replicate 4 .stopped
  nozzles := Vector.replicate 4 { a := ⟨.empty, .quiet⟩, b := ⟨.empty, .quiet⟩ }
  pointers := Vector.replicate 4 .a
  sockets := Vector.replicate 16 { phase := .disabled, reservation := none, sensor := .quiet, lastResult := .accepted }
  pendingTags := []
  picked := 0
  discarded := 0
  delivered := Vector.replicate 8 0
  drain := false
  dividerCount := 0
  presence := Vector.replicate 16 .off
  grips := Vector.replicate 4 { a := .off, b := .off }
  heads := Vector.replicate 4 .offDeck
  snapshot := Vector.replicate 64 0
  capture := Vector.replicate 4 none
  overflow := false
  headsSeen := 0
  counters := Vector.replicate 4 .zero
  controllerProtect := 0
  profileRefused := 0
  freeDraws := 0

end Sys2Proof.Machine
end

