-- ==== Sys2Proof/Machine/Ops.lean ====
section
/-! DEFINITION. The operations every block shares: the Deck Command Memory, grants and passed writes, one setter per
record of the state, the error counters, the fault capture table, suppression, mask causes and stray source sets. -/

namespace Sys2Proof.Machine

/-! ### The Deck Command Memory -/

/-- What a word of the memory that nothing has written reads as (log 5). -/
def unlistedWord : Word := 0

/-- The word at address a. -/
def dcmRead : List (Nat × Word) → Nat → Word
  | [], _ => unlistedWord
  | (b, v) :: rest, a => if a = b then v else dcmRead rest a

/-- The memory with w at address a, in canonical form. -/
def dcmWrite : List (Nat × Word) → Nat → Word → List (Nat × Word)
  | [], a, w => if w = unlistedWord then [] else [(a, w)]
  | (b, v) :: rest, a, w =>
    if a < b then (if w = unlistedWord then (b, v) :: rest else (a, w) :: (b, v) :: rest)
    else if a = b then (if w = unlistedWord then rest else (a, w) :: rest)
    else (b, v) :: dcmWrite rest a w

/-- The canonical form of a memory whose addresses are all at least lo: addresses strictly rising and below the
memory's size, no entry equal to what an unlisted word reads as. -/
def dcmWfFrom : Nat → List (Nat × Word) → Bool
  | _, [] => true
  | lo, (a, v) :: rest => lo ≤ a && a < Config.dcmWords && v != unlistedWord && dcmWfFrom (a + 1) rest

/-- The memory stands in its canonical form. -/
def dcmWf (m : List (Nat × Word)) : Bool := dcmWfFrom 0 m

/-! ### Sets held one bit per member -/

/-- Member i is in the set m. -/
def hasBit {n : Nat} (m : BitVec n) (i : Nat) : Bool := m.getLsbD i

/-- m with member i. -/
def addBit {n : Nat} (m : BitVec n) (i : Nat) : BitVec n := m ||| BitVec.twoPow n i

/-- m without member i. -/
def dropBit {n : Nat} (m : BitVec n) (i : Nat) : BitVec n := m &&& ~~~ BitVec.twoPow n i

/-! ### One setter per record -/

namespace State

def order (s : State) (h : HeadIx) (k : SlotIx) : Order := s.slots[h][k]

def setOrder (s : State) (h : HeadIx) (k : SlotIx) (o : Order) : State :=
  { s with slots := s.slots.set h (s.slots[h].set k o) }

def setZone (s : State) (z : ZoneIx) (r : ZoneRec) : State := { s with zones := s.zones.set z r }

def setSocketWaiters (s : State) (i : SocketIx) (l : List HeadIx) : State :=
  { s with socketWaiters := s.socketWaiters.set i l }

def setHoldTimer (s : State) (h : HeadIx) (t : HoldTimer) : State := { s with holdTimers := s.holdTimers.set h t }

def setFetchIndex (s : State) (h : HeadIx) (k : SlotIx) : State := { s with fetchIndex := s.fetchIndex.set h k }

def setExpectedSeq (s : State) (h : HeadIx) (q : Seq) : State := { s with expectedSeq := s.expectedSeq.set h q }

def nozzle (s : State) (h : HeadIx) (n : NozzleId) : Nozzle := s.nozzles[h].get n

def setNozzle (s : State) (h : HeadIx) (n : NozzleId) (x : Nozzle) : State :=
  { s with nozzles := s.nozzles.set h (s.nozzles[h].set n x) }

def setPointer (s : State) (h : HeadIx) (n : NozzleId) : State := { s with pointers := s.pointers.set h n }

def setSocket (s : State) (i : SocketIx) (x : Socket) : State := { s with sockets := s.sockets.set i x }

def setHead (s : State) (h : HeadIx) (x : HeadRec) : State := { s with heads := s.heads.set h x }

def setCounters (s : State) (h : HeadIx) (c : HeadCounters) : State := { s with counters := s.counters.set h c }

def setPresence (s : State) (i : SocketIx) (f : LineFilter) : State := { s with presence := s.presence.set i f }

def setGrip (s : State) (h : HeadIx) (n : NozzleId) (f : LineFilter) : State :=
  { s with grips := s.grips.set h (s.grips[h].set n f) }

end State

/-! ### Grants, passed and returned words (R2, R3) -/

/-- The arbiter's choice (R2): the waiting port, or of two waiting ports the one the last grant does not name. -/
def grantNext (last : Port) (controllerWaits driveWaits : Bool) : Option Port :=
  match controllerWaits, driveWaits with
  | false, false => none
  | true, false => some .controller
  | false, true => some .drive
  | true, true =>
    match last with
    | .controller => some .drive
    | .drive => some .controller

/-- An access of this source is granted: the last grant names its port (R2). -/
def State.grant (src : Source) (s : State) : State := { s with lastGrant := src.port }

/-- A write of this source is granted and reaches memory (R3, R6). -/
def passWrite (src : Source) (a : Nat) (w : Word) (s : State) : State :=
  { s with lastGrant := src.port, dcm := dcmWrite s.dcm a w }

/-- The word returned to the port that read (R1, R5). -/
def returnWord (src : Source) (w : Word) (s : State) : State :=
  match src with
  | .controller => { s with controllerData := w }
  | .drive _ => { s with driveData := w }

/-! ### Error counters (R175) -/

/-- Counts by one and stops at 255. -/
def countUp (c : BitVec 8) : BitVec 8 := if c = Config.counterTop then c else c + 1

def countSequenceError (h : HeadIx) (s : State) : State :=
  s.setCounters h { s.counters[h] with sequenceErrors := countUp s.counters[h].sequenceErrors }

def countDriveProtect (h : HeadIx) (s : State) : State :=
  s.setCounters h { s.counters[h] with protect := countUp s.counters[h].protect }

def countFetchOrder (h : HeadIx) (s : State) : State :=
  s.setCounters h { s.counters[h] with fetchOrder := countUp s.counters[h].fetchOrder }

def countReportError (h : HeadIx) (s : State) : State :=
  s.setCounters h { s.counters[h] with reportErrors := countUp s.counters[h].reportErrors }

/-! ### The fault capture table (R172, R173) -/

/-- The valid entry that holds a kind, if any. -/
def captureSlotOf (t : Vector (Option CaptureEntry) 4) (kind : FaultKind) : Option (Fin 4) :=
  allHeads.find? (fun i => match t[i] with
    | some e => e.report.kind == kind
    | none => false)

/-- The lowest-numbered invalid entry, if any. -/
def captureFreeSlot (t : Vector (Option CaptureEntry) 4) : Option (Fin 4) := allHeads.find? (fun i => (t[i]).isNone)

/-- The entry with one more repeat, stopping at 255. -/
def CaptureEntry.again (e : CaptureEntry) : CaptureEntry := { e with repeats := countUp e.repeats }

/-- Taking a fault into the table: a repeat, a new entry, or overflow; the head it names joins the heads-seen set
(R173). -/
def captureFault (f : FaultReport) (s : State) : State :=
  let s1 := match captureSlotOf s.capture f.kind with
    | some i => { s with capture := s.capture.set i (s.capture[i].map CaptureEntry.again) }
    | none =>
      match captureFreeSlot s.capture with
      | some i => { s with capture := s.capture.set i (some { report := f, repeats := 0 }) }
      | none => { s with overflow := true }
  match f.head with
  | some h => { s1 with headsSeen := addBit s1.headsSeen h }
  | none => s1

/-! ### Suppression (R9, R10) -/

/-- A write of the drive of head h is suppressed (R9). -/
def driveProtect (h : HeadIx) (s : State) : State :=
  captureFault { kind := .protect, head := some h, socket := none, slot := none, detail := 0 }
    (countDriveProtect h (s.grant (.drive h)))

/-- A controller write is suppressed, naming a head and, for a ring word, a slot (R10). -/
def controllerProtect (h : HeadIx) (k : Option SlotIx) (s : State) : State :=
  captureFault { kind := .protect, head := some h, socket := none, slot := k, detail := 0 }
    { s.grant .controller with controllerProtect := countUp s.controllerProtect }

/-! ### Mask causes and stray source sets (R145, R159) -/

/-- The bit of a cause in a head's set of causes and in its actions (11.5, 11.6). -/
def Cause.bit : Cause → Nat
  | .stray => 0
  | .mispick => 1
  | .misplace => 2
  | .seat => 3
  | .report => 4
  | .operator => 5

/-- Head h is given a cause; one it has already changes nothing (R159). -/
def giveCause (c : Cause) (h : HeadIx) (s : State) : State :=
  s.setHead h { s.heads[h] with causes := addBit s.heads[h].causes c.bit }

/-- Head h is given a cause unless it is OFFLINE (R85, R119, R121). -/
def giveCauseOnline (c : Cause) (h : HeadIx) (s : State) : State :=
  if s.heads[h].online then giveCause c h s else s

/-- The place of a line in a stray source set (R145). -/
def strayIx : Line → Fin 18
  | .presence i => ⟨i.val, by omega⟩
  | .grip _ .a => 16
  | .grip _ .b => 17

/-- The line can stand in head h's set: any presence line, or a grip line of the head's own (R145). -/
def lineConcerns : Line → HeadIx → Bool
  | .presence _, _ => true
  | .grip g _, h => g == h

/-- No entry stands in the set. -/
def strayEmpty (v : Vector (Option StrayEntry) 18) : Bool := v.toList.all Option.isNone

/-- Head record r charged with line l as open: an entry already there is kept; the head has STRAY (R145). -/
def HeadRec.chargedOpen (r : HeadRec) (l : Line) : HeadRec :=
  { r with
    stray := match r.stray[strayIx l] with
      | none => r.stray.set (strayIx l) (some .opened)
      | some _ => r.stray
    causes := addBit r.causes Cause.stray.bit }

/-- Head record r charged with line l as faulted (R145). -/
def HeadRec.chargedFaulted (r : HeadRec) (l : Line) : HeadRec :=
  { r with
    stray := r.stray.set (strayIx l) (some .faulted)
    causes := addBit r.causes Cause.stray.bit }

/-- Line l's open entry leaves the set of head record r, which loses STRAY if its set thereby becomes empty (R145). -/
def HeadRec.withoutOpen (r : HeadRec) (l : Line) : HeadRec :=
  match r.stray[strayIx l] with
  | some .opened =>
    let v := r.stray.set (strayIx l) none
    { r with stray := v, causes := if strayEmpty v then dropBit r.causes Cause.stray.bit else r.causes }
  | _ => r

/-- Line l's open entry in head record r becomes a faulted one (R150). -/
def HeadRec.openFaulted (r : HeadRec) (l : Line) : HeadRec :=
  match r.stray[strayIx l] with
  | some .opened => { r with stray := r.stray.set (strayIx l) (some .faulted) }
  | _ => r

/-- Every head record that a line concerns, changed by f. -/
def mapHeadsConcerned (l : Line) (f : HeadRec → HeadRec) (s : State) : State :=
  { s with heads := Vector.ofFn (fun h => if lineConcerns l h then f s.heads[h] else s.heads[h]) }

/-- Open entries of line l leave every stray source set (R143, R149). -/
def dropOpenEntries (l : Line) (s : State) : State := mapHeadsConcerned l (·.withoutOpen l) s

/-- Open entries of line l become faulted in every stray source set (R150). -/
def faultOpenEntries (l : Line) (s : State) : State := mapHeadsConcerned l (·.openFaulted l) s

/-- The head concerned with a line: the holder of the socket's zone, or the nozzle's own head (R145). -/
def headConcerned (s : State) : Line → Option HeadIx
  | .presence i => s.zones[s.socketPage[i].zone].holder
  | .grip h _ => some h

/-- The line is charged as open to the head concerned, if there is one (R145, R146, R148). -/
def chargeOpen (l : Line) (s : State) : State :=
  match headConcerned s l with
  | some h => s.setHead h (s.heads[h].chargedOpen l)
  | none => s

/-- The line is charged as faulted to the head concerned, if there is one (R145, R150). -/
def chargeFaulted (l : Line) (s : State) : State :=
  match headConcerned s l with
  | some h => s.setHead h (s.heads[h].chargedFaulted l)
  | none => s

end Sys2Proof.Machine
end

