-- ==== Sys2Proof/Machine/Flags.lean ====
section
/-! DEFINITION. What the part works out from its records each time it is read and does not store: the classes of an
order's state (R39), its chain (R37), what a leg names, the state of a head (R154), the effective mask action (R160),
watched lines and their expected levels (R142), the units carried (R125), DRAINED (R138), the yield flags (R82), and
ALERT (R177). -/

namespace Sys2Proof.Machine

/-! ### Orders (R37, R39) -/

/-- HELD: SOCKET WAIT or ZONE WAIT (R39). -/
def OrderState.held : OrderState → Bool
  | .socketWait | .zoneWait => true
  | _ => false

/-- LIVE: POSTED, held or CLEARED (R39). -/
def OrderState.live : OrderState → Bool
  | .posted | .socketWait | .zoneWait | .cleared => true
  | _ => false

/-- The finished states (R39). -/
def OrderState.finished : OrderState → Bool
  | .done | .refused _ | .aborted _ => true
  | _ => false

/-- The chain of captured legs from the first word on; none where it is ill formed (R37). -/
def chainOf : List (Option Leg) → Option (List Leg)
  | [] => none
  | none :: _ => none
  | some l :: rest => if l.more then (chainOf rest).map (l :: ·) else some [l]

/-- The slot's chain, where it is well formed (R37). -/
def Order.chain? (o : Order) : Option (List Leg) := chainOf o.legs.toList

/-- The legs of the order, leg 0 first; empty where the chain is ill formed, which no live order's is (R49). -/
def Order.chain (o : Order) : List Leg := o.chain?.getD []

namespace State

/-- The order at head h's fetch index, the only one that can be held or CLEARED (R62; log 16). -/
def orderAt (s : State) (h : HeadIx) : Order := s.order h s.fetchIndex[h]

/-- The type of zone z, if its field names one (R17). -/
def zoneType (s : State) (z : ZoneIx) : Option ZoneType := zoneTypeOfCode s.zonePage[z].type

/-- Zone y is adjacent to zone z (R17). -/
def adjacent (s : State) (z y : ZoneIx) : Bool := hasBit s.zonePage[z].neighbours y

/-- Zone z is in head h's reach (R19). -/
def reaches (s : State) (h : HeadIx) (z : ZoneIx) : Bool := hasBit s.headPage[h].reach z

end State

/-! ### What a leg names (R36, R87, R142) -/

/-- A PICK or a PLACE. -/
def Leg.handles (l : Leg) : Bool := l.action == .pick || l.action == .place

/-- A PICK in an INPUT zone, whose TAG is read. -/
def inputPick (s : State) (l : Leg) : Bool := l.action == .pick && s.zoneType l.zone == some .input

/-- The socket a PICK or PLACE leg in a SITE zone names. -/
def legSocket (s : State) (l : Leg) : Option SocketIx :=
  if l.handles && s.zoneType l.zone == some .site then some l.socket else none

/-- The nozzle a NOZZLE field names when ACTIVE stands for nozzle p (R65, R87). -/
def NozzleSel.resolve (p : NozzleId) : NozzleSel → NozzleId
  | .a => .a
  | .b => .b
  | .active => p
  | .other => p.other

/-- The nozzle that the legs of head h's running order resolve ACTIVE to (R87). -/
def activeNozzle (s : State) (h : HeadIx) (o : Order) : NozzleId := o.resolved.getD s.pointers[h]

/-- The nozzle a leg names at its report: none for TRAVEL (R87, R142). -/
def legNozzle (p : NozzleId) (l : Leg) : Option NozzleId := if l.handles then some (l.nozzle.resolve p) else none

/-- The sockets an order's legs name, in chain order. -/
def namedSockets (s : State) (legs : List Leg) : List SocketIx := legs.filterMap (legSocket s)

/-- The zones an order of head h needs: those of its legs in chain order, then the resting zone (R71). -/
def neededZones (s : State) (h : HeadIx) (legs : List Leg) : List ZoneIx :=
  legs.map Leg.zone ++ s.heads[h].resting.toList

/-- The current leg of head h's CLEARED order: its lowest leg not completed (R142). -/
def currentLeg (s : State) (h : HeadIx) : Option Leg :=
  let o := s.orderAt h
  if o.state = .cleared then o.chain[o.completed]? else none

/-! ### Heads (R154, R160) -/

/-- The five states of a head (R154). -/
inductive HeadState where
  | offline
  | idle
  | waiting
  | moving
  | faulted
  deriving DecidableEq, Repr

/-- The state of head h, read from its record and the order at its fetch index (R154). -/
def headState (s : State) (h : HeadIx) : HeadState :=
  if !s.heads[h].online then .offline
  else if s.heads[h].faulted then .faulted
  else match (s.orderAt h).state with
    | .cleared => .moving
    | .socketWait | .zoneWait => .waiting
    | _ => .idle

/-- Head h has at least one mask cause. -/
def masked (s : State) (h : HeadIx) : Bool := s.heads[h].causes != 0

/-- The effective action is HALT: the HEAD page gives HALT to some cause of the head; DWELL otherwise (R160). -/
def effectiveHalt (s : State) (h : HeadIx) : Bool := s.heads[h].causes &&& s.headPage[h].actions != 0

/-! ### Units carried (R125) -/

/-- The unit a socket carries (R103). -/
def Phase.unit : Phase → Option UnitRec
  | .seating u _ _ => some u
  | .loaded u => some u
  | .testing u => some u
  | .tested u => some u
  | .fault _ u => u
  | .disabled | .empty | .vacating _ _ => none

/-- The unit a nozzle carries (R86). -/
def NozzleContent.unit : NozzleContent → Option UnitRec
  | .empty => none
  | .holding u => some u
  | .suspect u => u

/-- The units that sockets carry. -/
def socketUnits (s : State) : List UnitRec := s.sockets.toList.filterMap (fun x => x.phase.unit)

/-- The units that nozzles carry. -/
def nozzleUnits (s : State) : List UnitRec :=
  s.nozzles.toList.flatMap (fun p => p.a.content.unit.toList ++ p.b.content.unit.toList)

/-- Every unit record carried by a socket or a nozzle (R125). -/
def carriedUnits (s : State) : List UnitRec := socketUnits s ++ nozzleUnits s

/-- The number of units carried (R125). -/
def unitsCarried (s : State) : Nat := (carriedUnits s).length

/-- The tag is carried by some nozzle or socket (R132). -/
def tagCarried (s : State) (t : Tag) : Bool := (carriedUnits s).any (fun u => u.tag == t)

/-! ### Lines (R142) -/

/-- The filter of a line. -/
def State.filter (s : State) : Line → LineFilter
  | .presence i => s.presence[i]
  | .grip h n => s.grips[h].get n

/-- The filtered level of a line, ON being true (R140). -/
def State.level (s : State) (l : Line) : Bool := (s.filter l).filtered

/-- The sensor sub-state of a line, kept in its owner's record (R144). -/
def State.sensor (s : State) : Line → Sensor
  | .presence i => s.sockets[i].sensor
  | .grip h n => (s.nozzle h n).sensor

/-- The current leg of some CLEARED order names the line (R142). -/
def namedByCurrentLeg (s : State) : Line → Bool
  | .presence i => allHeads.any (fun h => match currentLeg s h with
    | some l => legSocket s l == some i
    | none => false)
  | .grip h n => match currentLeg s h with
    | some l => legNozzle (activeNozzle s h (s.orderAt h)) l == some n
    | none => false

/-- The level a line's owner expects while the line is watched; none where the owner's state leaves the line
unwatched (R142). -/
def expectedLevel (s : State) : Line → Option Bool
  | .presence i =>
    match s.sockets[i].phase with
    | .empty => some false
    | .loaded _ | .testing _ | .tested _ => some true
    | .disabled | .seating _ _ _ | .vacating _ _ | .fault _ _ => none
  | .grip h n =>
    if !s.heads[h].online then none
    else match (s.nozzle h n).content with
      | .empty => some false
      | .holding _ => some true
      | .suspect _ => none

/-- The expected level of a watched line; none where the line is unwatched (R142). -/
def watchedLevel (s : State) (l : Line) : Option Bool := if namedByCurrentLeg s l then none else expectedLevel s l

/-! ### Deck flags (R82, R138, R177) -/

/-- Some order is CLEARED (R138). -/
def someCleared (s : State) : Bool := allHeads.any (fun h => (s.orderAt h).state == .cleared)

/-- DRAINED (R138). -/
def drained (s : State) : Bool := s.drain && unitsCarried s == 0 && !someCleared s

/-- Head x's order is held and needs a zone that head y holds. -/
def heldNeedsZoneOf (s : State) (x y : HeadIx) : Bool :=
  (s.orderAt x).state.held &&
    (neededZones s x (s.orderAt x).chain).any (fun z => s.zones[z].holder == some y)

/-- The yield flag of head y (R82). -/
def yieldFlag (s : State) (y : HeadIx) : Bool :=
  headState s y == .idle && allHeads.any (fun x => x != y && heldNeedsZoneOf s x y)

/-- The level of the ALERT output (R177). -/
def alert (s : State) : Bool :=
  (s.limits.captureAlert && allHeads.any (fun i => (s.capture[i]).isSome)) ||
    (s.limits.yieldAlert && allHeads.any (yieldFlag s))

end Sys2Proof.Machine
end

