-- ==== Sys2Proof/Machine/Formats.lean ====
section
/-! DEFINITION. The words the part forms (11_word_formats): the fetch substitute, the control and profile results, the
profile entries, the disposition, socket state and socket unit words, and the 64 status words. Bits that belong to
no field read 0. -/

namespace Sys2Proof.Machine

/-- The value v of a field whose least significant bit is lo. -/
def field (lo : Nat) {n : Nat} (v : BitVec n) : Word := v.setWidth 32 <<< lo

/-- The number v in a field of n bits whose least significant bit is lo. -/
def fieldNat (lo n v : Nat) : Word := field lo (BitVec.ofNat n v)

/-- A flag at bit lo. -/
def flag (lo : Nat) (b : Bool) : Word := field lo (BitVec.ofBool b)

/-! ### Ring words (11.1, 11.2) -/

/-- The kinds of substitute word (R58). -/
inductive SubstKind where
  | none
  | dwell
  | skip
  | halt
  deriving DecidableEq, Repr

def SubstKind.code : SubstKind → BitVec 3
  | .none => 0
  | .dwell => 1
  | .skip => 2
  | .halt => 3

def Reason.code : Reason → BitVec 4
  | .malformed => 1
  | .sequence => 2
  | .reach => 3
  | .path => 4
  | .socket => 5
  | .nozzle => 6
  | .dupTag => 7
  | .bin => 8
  | .retest => 9
  | .deadlock => 10
  | .timeout => 11
  | .busy => 12
  | .withdrawn => 13
  | .offline => 14
  | .drain => 15

def AbortCode.code : AbortCode → BitVec 4
  | .legFail => 1
  | .mispick => 2
  | .misplace => 3
  | .stuck => 4

def OrderState.code : OrderState → BitVec 4
  | .free => 0
  | .filling => 1
  | .posted => 2
  | .socketWait => 3
  | .zoneWait => 4
  | .cleared => 5
  | .done => 6
  | .refused _ => 7
  | .aborted _ => 8

/-- The disposition reason: a reason code in REFUSED, an abort code in ABORTED, NONE otherwise (R38, R57). -/
def OrderState.reasonCode : OrderState → BitVec 4
  | .refused r => r.code
  | .aborted c => c.code
  | _ => 0

/-- The fetch substitute (R58, 11.1). -/
def substitute (kind : SubstKind) (slot : SlotIx) (reason : BitVec 4) : Word :=
  field 28 kind.code ||| fieldNat 24 4 slot ||| field 0 reason

def substNone : Word := substitute .none 0 0
def substHalt : Word := substitute .halt 0 0
def substDwell (k : SlotIx) : Word := substitute .dwell k 0
def substSkip (k : SlotIx) (r : Reason) : Word := substitute .skip k r.code

/-- The disposition word of an order record (R57). -/
def dispositionWord (o : Order) : Word :=
  field 28 o.state.code ||| field 24 o.state.reasonCode ||| fieldNat 20 3 o.completed |||
  flag 18 o.resolved.isSome ||| flag 17 (o.resolved == some .b) ||| field 8 (o.seq.getD 0) |||
  flag 4 o.blocker.isSome ||| fieldNat 0 2 (o.blocker.getD 0)

/-! ### Socket words (11.3) -/

def Phase.code : Phase → BitVec 4
  | .disabled => 0
  | .empty => 1
  | .seating _ _ _ => 2
  | .loaded _ => 3
  | .testing _ => 4
  | .tested _ => 5
  | .vacating _ _ => 6
  | .fault _ _ => 7

def FaultReason.code : FaultReason → BitVec 3
  | .seat => 1
  | .stuck => 2
  | .lostDevice => 3
  | .stray => 4
  | .legFail => 5
  | .mispick => 6
  | .misplace => 7

/-- The fault reason field: zero outside FAULT (R123). -/
def Phase.reasonCode : Phase → BitVec 3
  | .fault r _ => r.code
  | _ => 0

def SocketResult.code : SocketResult → BitVec 4
  | .accepted => 0
  | .state => 1
  | .mode => 2
  | .busy => 3
  | .notSeated => 4
  | .stillPresent => 5
  | .badCommand => 6

def Sensor.isDisturbed : Sensor → Bool
  | .disturbed _ => true
  | _ => false

def Sensor.isRecovering : Sensor → Bool
  | .recovering _ => true
  | _ => false

def Sensor.code : Sensor → BitVec 2
  | .quiet => 0
  | .disturbed _ => 1
  | .recovering _ => 2

/-- The reservation's head and slot fields; zero while there is none (R123). -/
def reservationField : Option (HeadIx × SlotIx) → Word
  | some (h, k) => flag 25 true ||| fieldNat 23 2 h ||| fieldNat 19 4 k
  | none => 0

/-- The state word of socket i (R123). -/
def socketStateWord (s : State) (i : SocketIx) : Word :=
  let x := s.sockets[i]
  field 28 x.phase.code ||| flag 27 x.sensor.isDisturbed ||| flag 26 x.sensor.isRecovering |||
  reservationField x.reservation ||| field 16 x.phase.reasonCode ||| field 12 x.lastResult.code |||
  fieldNat 8 3 s.socketWaiters[i].length ||| flag 7 (s.level (.presence i))

/-- The result field of the unit word: 15 for none (11.3). -/
def resultField : Option UnitResult → BitVec 4
  | some (.cls c) => BitVec.ofNat 4 c.val
  | some .retest => 8
  | none => 15

/-- The unit word of a socket that carries u (R124). The last socket field of a unit without a last socket, which the spec
leaves open, reads 0: a DESIGN CHOICE (log 20). -/
def unitWord : Option UnitRec → Word
  | none => 0
  | some u =>
    flag 31 true ||| field 16 u.tag ||| field 12 u.insertions |||
    fieldNat 8 4 (u.lastSocket.getD 0) ||| flag 7 u.lastSocket.isSome ||| field 0 (resultField u.result)

def socketUnitWord (s : State) (i : SocketIx) : Word := unitWord s.sockets[i].phase.unit

/-! ### Control and profile words (11.4, 11.5) -/

def ControlResult.code : ControlResult → BitVec 4
  | .accepted => 0
  | .mode => 1
  | .state => 2
  | .zone => 3
  | .occupied => 4
  | .profile => 5
  | .busy => 6
  | .units => 7
  | .badCommand => 8

/-- The control result word (R14). -/
def controlResultWord (s : State) : Word := field 24 s.controlCode ||| field 0 s.controlResult.code

def ProfileCode.code : ProfileCode → BitVec 4
  | .accepted => 0
  | .mode => 1
  | .validation => 2

/-- The profile result word, with the counter's OVERRUN as it stands (R27). -/
def profileResultWord (s : State) : Word :=
  flag 31 s.counter.overrun ||| field 24 s.profileResult.code.code ||| field 20 s.profileResult.page.number |||
  fieldNat 16 4 s.profileResult.entry ||| field 0 s.profileResult.check

def zoneEntryWord (e : ZoneEntry) : Word := field 29 e.type ||| field 16 e.classes ||| field 0 e.neighbours
def socketEntryWord (e : SocketEntry) : Word := flag 31 e.enabled ||| fieldNat 0 4 e.zone

def headEntryWord (e : HeadEntry) : Word :=
  flag 31 e.present ||| flag 30 e.twoNozzles ||| field 16 e.actions ||| field 0 e.reach

/-- Entry e of the LIMITS page (11.5). -/
def limitsEntryWord (m : Limits) (e : Nat) : Word :=
  match e with
  | 0 => field 0 m.divisor
  | 1 => field 0 m.debounce
  | 2 => field 0 m.seatWindow
  | 3 => field 0 m.disturb
  | 4 => field 0 m.recover
  | 5 => field 0 m.hold
  | 6 => field 0 m.retest ||| field 4 m.overflowClass ||| flag 8 m.rotate
  | 7 => flag 0 m.captureAlert ||| flag 1 m.yieldAlert
  | _ => 0

/-- The profile entry e of a page, each stored field in its place (R16). -/
def profileEntryWord (s : State) (p : Page) (e : Fin 16) : Word :=
  match p with
  | .zone => zoneEntryWord s.zonePage[e]
  | .socket => socketEntryWord s.socketPage[e]
  | .head => headEntryWord s.headPage[Fin.ofNat 4 e.val]
  | .limits => limitsEntryWord s.limits e.val

/-! ### Status words (11.6, R170) -/

/-- Word 0, the summary. -/
def summaryWord (s : State) : Word :=
  flag 31 (s.mode == .run) ||| flag 30 s.drain ||| flag 29 (drained s) ||| flag 28 (alert s) |||
  flag 27 s.overflow ||| field 16 s.headsSeen ||| fieldNat 0 5 (unitsCarried s)

def HeadState.code : HeadState → BitVec 3
  | .offline => 0
  | .idle => 1
  | .waiting => 2
  | .moving => 3
  | .faulted => 4

/-- The head word of head h (R167). The resting zone field while there is no resting zone, and the flag for HALT while no
cause is set, which the spec leaves open, read 0: a DESIGN CHOICE (log 20). -/
def headWord (s : State) (h : HeadIx) : Word :=
  let r := s.heads[h]
  field 29 (headState s h).code ||| flag 28 r.resting.isSome ||| fieldNat 24 4 (r.resting.getD 0) |||
  fieldNat 20 4 s.fetchIndex[h] ||| field 12 s.expectedSeq[h] ||| field 6 r.causes |||
  flag 5 (effectiveHalt s h) ||| flag 4 (s.pointers[h] == .b) ||| flag 3 (yieldFlag s h) |||
  flag 2 s.counters[h].live ||| flag 1 s.counters[h].sticky

/-- The counters word of head h (R175). -/
def countersWord (c : HeadCounters) : Word :=
  field 24 c.sequenceErrors ||| field 16 c.protect ||| field 8 c.fetchOrder ||| field 0 c.reportErrors

def FaultKind.code : FaultKind → BitVec 4
  | .seat => 1
  | .stuck => 2
  | .lostDevice => 3
  | .stray => 4
  | .drop => 5
  | .mispick => 6
  | .misplace => 7
  | .legFail => 8
  | .reportError => 9
  | .protect => 10
  | .fetchOrder => 11
  | .sequence => 12

/-- The first word of a capture entry (R172); an invalid entry reads all zero. The head, socket and slot fields of a valid
entry that names none, which the spec leaves open, read 0: a DESIGN CHOICE (log 20). -/
def captureWordA : Option CaptureEntry → Word
  | none => 0
  | some e =>
    flag 31 true ||| field 27 e.report.kind.code ||| flag 26 e.report.head.isSome |||
    fieldNat 24 2 (e.report.head.getD 0) ||| flag 23 e.report.socket.isSome |||
    fieldNat 19 4 (e.report.socket.getD 0) ||| flag 18 e.report.slot.isSome |||
    fieldNat 14 4 (e.report.slot.getD 0)

/-- The second word of a capture entry (R172). -/
def captureWordB : Option CaptureEntry → Word
  | none => 0
  | some e => field 8 e.report.detail ||| field 0 e.repeats

/-- The place of the n-th waiter, 0 being the oldest; zero beyond the list's length (R171). -/
def waiterField (l : List HeadIx) (n : Nat) : Word := fieldNat (6 - 2 * n) 2 (l[n]?.getD 0)

/-- The zone word (R171). The holder field of a zone without a holder, which the spec leaves open, reads 0: a DESIGN CHOICE
(log 20). -/
def zoneWord (r : ZoneRec) : Word :=
  flag 31 r.holder.isSome ||| fieldNat 28 2 (r.holder.getD 0) ||| fieldNat 24 3 r.waiters.length |||
  waiterField r.waiters 0 ||| waiterField r.waiters 1 ||| waiterField r.waiters 2 ||| waiterField r.waiters 3

def NozzleContent.code : NozzleContent → BitVec 2
  | .empty => 0
  | .holding _ => 1
  | .suspect _ => 2

/-- The tag a nozzle's unit shows; zero while it carries none (R171). -/
def tagField : Option UnitRec → Tag
  | some u => u.tag
  | none => 0

/-- The nozzle word of nozzle n of head h (R171). -/
def nozzleWord (s : State) (h : HeadIx) (n : NozzleId) : Word :=
  let x := s.nozzle h n
  field 30 x.content.code ||| flag 29 x.content.unit.isSome ||| field 16 (tagField x.content.unit) |||
  field 8 x.sensor.code ||| flag 7 (s.level (.grip h n))

/-- The 64 status words, in their order (R170). -/
def statusWords (s : State) : List Word :=
  [summaryWord s] ++ allHeads.map (headWord s) ++ allHeads.map (fun h => countersWord s.counters[h]) ++
  [field 24 s.controllerProtect ||| field 16 s.profileRefused] ++
  allHeads.flatMap (fun i => [captureWordA s.capture[i], captureWordB s.capture[i]]) ++
  all16.map (fun z => zoneWord s.zones[z]) ++
  allHeads.flatMap (fun h => [nozzleWord s h .a, nozzleWord s h .b]) ++
  [s.picked, s.discarded] ++ allClasses.map (fun c => s.delivered[c]) ++ List.replicate 12 0

/-- The snapshot of the part as it stands (R169). -/
def formSnapshot (s : State) : Vector Word 64 :=
  ⟨(statusWords s).toArray, by simp [statusWords, allHeads, all16, allClasses]⟩

/-- A snapshot is taken: all 64 words formed from the state as it stands, and latched (R169). -/
def takeSnapshot (s : State) : State := { s with snapshot := formSnapshot s }

end Sys2Proof.Machine
end

