-- ==== Sys2Proof/Machine/Lines.lean ====
section
/-! DEFINITION. The Line Monitor, and the timers it and the other blocks count in ticks: the socket's changes of state
as they bear on its line (R104), the comparison of a watched line (R143 to R149), the tick (R139, R140), the events
that fall due at a tick, and the rows TICK, FILTERED_LEVEL_CHANGE, SEAT_WINDOW_EXPIRY, VACATE_WINDOW_EXPIRY,
DISTURBANCE_TIMER_EXPIRY, RECOVER_COUNTDOWN_EXPIRY and HOLD_TIMER_EXPIRY. -/

namespace Sys2Proof.Machine

/-! ### A line's sub-state, and a socket's change of state (R104, R143) -/

/-- Line l's sub-state in its owner's record. -/
def setSensor (l : Line) (x : Sensor) (s : State) : State :=
  match l with
  | .presence i => s.setSocket i { s.sockets[i] with sensor := x }
  | .grip h n => s.setNozzle h n { s.nozzle h n with sensor := x }

/-- Line l goes back to QUIET: its timer stops without expiring and its open entries leave (R143, R149). -/
def quietLine (l : Line) (s : State) : State := dropOpenEntries l (setSensor l .quiet s)

/-- LOADED, TESTING or TESTED, among which a change keeps sub-state and timer (R104). -/
def Phase.seated : Phase → Bool
  | .loaded _ | .testing _ | .tested _ => true
  | _ => false

/-- Socket i changes its state; sub-state, timer and open entries follow R104 and R143. -/
def changePhase (i : SocketIx) (p : Phase) (s : State) : State :=
  let kept := s.sockets[i].phase.seated && p.seated
  let s1 := s.setSocket i { s.sockets[i] with phase := p }
  if kept then s1 else quietLine (.presence i) s1

/-- Socket i's reservation is dropped (R106). -/
def dropReservation (i : SocketIx) (s : State) : State := s.setSocket i { s.sockets[i] with reservation := none }

/-- Nozzle n of head h changes its state and unit. -/
def setContent (h : HeadIx) (n : NozzleId) (c : NozzleContent) (s : State) : State :=
  s.setNozzle h n { s.nozzle h n with content := c }

/-! ### The comparison of a line (R143, R146 to R148) -/

/-- The disturbance timer in full, in ticks (R144). -/
def disturbTicks (s : State) : Nat := s.limits.disturb.toNat

/-- The recover countdown in full, in ticks (R144). -/
def recoverTicks (s : State) : Nat := Config.ticksPerTen * s.limits.recover.toNat

/-- The seat and vacate windows in full, in ticks (R118, R120). -/
def windowTicks (s : State) : Nat := s.limits.seatWindow.toNat

/-- Line l becomes DISTURBED with its disturbance timer in full, and is charged as open (R146, R148). -/
def disturbLine (l : Line) (s : State) : State := chargeOpen l (setSensor l (.disturbed (disturbTicks s)) s)

/-- Line l is compared with its expected level as the state now stands; an unwatched line goes back to QUIET
(R143). -/
def compareLine (l : Line) (s : State) : State :=
  match watchedLevel s l with
  | none =>
    match s.sensor l with
    | .quiet => s
    | _ => quietLine l s
  | some e =>
    if s.level l = e then
      match s.sensor l with
      | .disturbed _ => setSensor l (.recovering (recoverTicks s)) s
      | _ => s
    else
      match s.sensor l with
      | .disturbed _ => s
      | _ => disturbLine l s

/-- The lines of a list are compared, each on its own. -/
def compareLines (ls : List Line) (s : State) : State := ls.foldl (fun t l => compareLine l t) s

/-- The lines that head h's order or its commands can make watched or unwatched: its two grip lines and the lines of
the sockets the given legs name (R142, R143; log 19). -/
def linesOf (s : State) (h : HeadIx) (legs : List Leg) : List Line :=
  [.grip h .a, .grip h .b] ++ (namedSockets s legs).map Line.presence

/-! ### Filtered level changes (R118, R120, R140) -/

/-- Line l's filter. -/
def setFilter (l : Line) (f : LineFilter) (s : State) : State :=
  match l with
  | .presence i => s.setPresence i f
  | .grip h n => s.setGrip h n f

/-- The seat rule and the vacate rule at a change of socket i's filtered presence to the given level (R118, R120). -/
def seatVacate (i : SocketIx) (level : Bool) (s : State) : State :=
  match s.sockets[i].phase, level with
  | .seating u _ _, true => changePhase i (.loaded u) s
  | .vacating _ _, false => changePhase i .empty s
  | _, _ => s

/-- The owner's rules at a change of line l's filtered level. -/
def ownerOnChange (l : Line) (level : Bool) (s : State) : State :=
  match l with
  | .presence i => seatVacate i level s
  | .grip _ _ => s

/-- A filtered level change that is due is taken: the level becomes the sampled one, the run count 0, and every rule
that acts on the line acts (R140). -/
def takeLevelChange (l : Line) (s : State) : State :=
  let f := s.filter l
  if f.changeDue then
    compareLine l (ownerOnChange l f.raw
      (setFilter l { f with filtered := f.raw, run := 0, changeDue := false } s))
  else s

/-! ### Timer expiries -/

/-- Socket i's seat window has run out (R118). -/
def seatDue (s : State) (i : SocketIx) : Bool :=
  match s.sockets[i].phase with
  | .seating _ _ 0 => true
  | _ => false

/-- Socket i's vacate window has run out (R120). -/
def vacateDue (s : State) (i : SocketIx) : Bool :=
  match s.sockets[i].phase with
  | .vacating _ 0 => true
  | _ => false

/-- Line l is watched and its disturbance timer has run out (R144). -/
def disturbDue (s : State) (l : Line) : Bool :=
  (watchedLevel s l).isSome && s.sensor l == .disturbed 0

/-- Line l is watched and its recover countdown has run out (R144). -/
def recoverDue (s : State) (l : Line) : Bool :=
  (watchedLevel s l).isSome && s.sensor l == .recovering 0

/-- Head h's hold timer has run out (R75). -/
def holdDue (s : State) (h : HeadIx) : Bool := s.holdTimers[h] == .running 0

/-- The expiry of socket i's seat window (R119). -/
def takeSeatExpiry (i : SocketIx) (s : State) : State :=
  match s.sockets[i].phase with
  | .seating u h 0 =>
    captureFault { kind := .seat, head := some h, socket := some i, slot := none, detail := 0 }
      (giveCauseOnline .seat h (changePhase i (.fault .seat (some u)) s))
  | _ => s

/-- The expiry of socket i's vacate window (R121). -/
def takeVacateExpiry (i : SocketIx) (s : State) : State :=
  match s.sockets[i].phase with
  | .vacating h 0 =>
    captureFault { kind := .stuck, head := some h, socket := some i, slot := none, detail := 0 }
      (giveCauseOnline .misplace h (changePhase i (.fault .stuck none) s))
  | _ => s

/-- The fault outcome of socket i's line on its owner (R122). -/
def socketLineFault (i : SocketIx) (s : State) : State :=
  let f (kind : FaultKind) : FaultReport :=
    { kind := kind, head := headConcerned s (.presence i), socket := some i, slot := none, detail := 0 }
  match s.sockets[i].phase with
  | .empty => captureFault (f .stray) (changePhase i (.fault .stray none) s)
  | .loaded u | .testing u | .tested u =>
    captureFault (f .lostDevice) (changePhase i (.fault .lostDevice (some u)) s)
  | _ => s

/-- The fault outcome of a grip line on its nozzle (R150). -/
def nozzleLineFault (h : HeadIx) (n : NozzleId) (s : State) : State :=
  let f (kind : FaultKind) : FaultReport :=
    { kind := kind, head := some h, socket := none, slot := none, detail := 0 }
  match (s.nozzle h n).content with
  | .empty => captureFault (f .stray) (setContent h n (.suspect none) s)
  | .holding u => captureFault (f .drop) (setContent h n (.suspect (some u)) s)
  | .suspect _ => s

/-- The owner's part of a fault outcome. -/
def ownerFault (l : Line) (s : State) : State :=
  match l with
  | .presence i => socketLineFault i s
  | .grip h n => nozzleLineFault h n s

/-- The expiry of line l's disturbance timer: entries become faulted, the head concerned is charged, the owner
changes, and the line is unwatched (R150). -/
def takeDisturbExpiry (l : Line) (s : State) : State :=
  if disturbDue s l then compareLine l (ownerFault l (chargeFaulted l (faultOpenEntries l s))) else s

/-- The completion of line l's recover countdown (R149). -/
def takeRecoverExpiry (l : Line) (s : State) : State := if recoverDue s l then quietLine l s else s

/-! ### Leaving the wait lists (R69, R74) -/

/-- Head h leaves every zone and socket wait list (R69). -/
def leaveLists (h : HeadIx) (s : State) : State :=
  { s with
    zones := Vector.ofFn (fun z => { s.zones[z] with waiters := s.zones[z].waiters.filter (· != h) })
    socketWaiters := Vector.ofFn (fun i => s.socketWaiters[i].filter (· != h)) }

/-- Head h stops holding: it leaves its lists and its hold timer stops (R74). -/
def stopHolding (h : HeadIx) (s : State) : State := (leaveLists h s).setHoldTimer h .stopped

/-- The order in slot k of head h becomes REFUSED and has no blocker; captured legs, SEQ and NOWAIT are kept
(R52, R63, R75, R157). -/
def refuseOrder (h : HeadIx) (k : SlotIx) (r : Reason) (skip : Bool) (s : State) : State :=
  s.setOrder h k { s.order h k with state := .refused r, blocker := none, skipGiven := skip }

/-- The expiry of head h's hold timer (R75). -/
def takeHoldExpiry (h : HeadIx) (s : State) : State :=
  if holdDue s h then
    let s1 := stopHolding h s
    if (s.orderAt h).state.held then refuseOrder h s.fetchIndex[h] .timeout false s1 else s1
  else s

/-! ### Events due together -/

/-- The events that fall due at a tick. -/
inductive TimedEvent where
  | level (l : Line)
  | hold (h : HeadIx)
  | seat (i : SocketIx)
  | vacate (i : SocketIx)
  | disturb (l : Line)
  | recover (l : Line)
  deriving DecidableEq, Repr

/-- Every event there can be. -/
def allTimedEvents : List TimedEvent :=
  allLines.map .level ++ allHeads.map .hold ++ all16.map .seat ++ all16.map .vacate ++ allLines.map .disturb ++
  allLines.map .recover

/-- The event is due and not yet taken. -/
def eventDue (s : State) : TimedEvent → Bool
  | .level l => (s.filter l).changeDue
  | .hold h => holdDue s h
  | .seat i => seatDue s i
  | .vacate i => vacateDue s i
  | .disturb l => disturbDue s l
  | .recover l => recoverDue s l

/-- The event is taken. -/
def takeEvent (e : TimedEvent) (s : State) : State :=
  match e with
  | .level l => takeLevelChange l s
  | .hold h => takeHoldExpiry h s
  | .seat i => takeSeatExpiry i s
  | .vacate i => takeVacateExpiry i s
  | .disturb l => takeDisturbExpiry l s
  | .recover l => takeRecoverExpiry l s

/-- The events due as the state stands. -/
def dueEvents (s : State) : List TimedEvent := allTimedEvents.filter (eventDue s)

/-- Of the events due, the one taken next: with several, a free choice (R152, R173; log 4). -/
def chooseEvent (draws : Nat) (e : TimedEvent) (rest : List TimedEvent) : TimedEvent :=
  match rest with
  | [] => e
  | _ :: _ => (e :: rest).getD (Config.eventChoice draws % (rest.length + 1)) e

/-- Up to n of the events due are taken, one after another in a free order. -/
def settleFor : Nat → State → State
  | 0, s => s
  | n + 1, s =>
    match dueEvents s with
    | [] => s
    | e :: rest => settleFor n (takeEvent (chooseEvent s.freeDraws e rest) { s with freeDraws := s.freeDraws + 1 })

/-- Every event still due from the last tick is taken (log 3, log 4). There are at most 108 kinds of event, and taking
one makes no other due. -/
def settle (s : State) : State := settleFor 128 s

/-! ### The tick (R139, R140) -/

/-- One line's sample: the run count, and whether it reaches the debounce count in force (R140). -/
def sampleLine (debounce : BitVec 4) (raw : Bool) (f : LineFilter) : LineFilter :=
  if raw = f.filtered then { raw := raw, filtered := f.filtered, run := 0, changeDue := false }
  else
    let run := if f.run = Config.runTop then f.run else f.run + 1
    { raw := raw, filtered := f.filtered, run := run, changeDue := decide (debounce ≤ run) }

/-- The sub-state's timer counts a tick. -/
def Sensor.tick : Sensor → Sensor
  | .quiet => .quiet
  | .disturbed n => .disturbed (n - 1)
  | .recovering n => .recovering (n - 1)

/-- A window counts a tick. -/
def Phase.tick : Phase → Phase
  | .seating u h n => .seating u h (n - 1)
  | .vacating h n => .vacating h (n - 1)
  | p => p

/-- The hold timer counts a tick; with a hold limit of 0 it counts nothing (R75). -/
def HoldTimer.tick : HoldTimer → HoldTimer
  | .running n => .running (n - 1)
  | t => t

def Socket.tick (x : Socket) : Socket := { x with phase := x.phase.tick, sensor := x.sensor.tick }

def Nozzle.tick (x : Nozzle) : Nozzle := { x with sensor := x.sensor.tick }

/-- The bit of a grip line in TICK's second operand. -/
def gripBit (h : HeadIx) : NozzleId → Nat
  | .a => 2 * h.val
  | .b => 2 * h.val + 1

/-- A tick occurs with the given raw levels: the divider count returns to 0, every line is sampled, every timer
counts (R139, R140). -/
def sampleTick (presence : BitVec 16) (grip : BitVec 8) (s : State) : State :=
  { s with
    dividerCount := 0
    presence := Vector.ofFn (fun i => sampleLine s.debounceInForce (hasBit presence i) s.presence[i])
    grips := Vector.ofFn (fun h =>
      { a := sampleLine s.debounceInForce (hasBit grip (gripBit h .a)) s.grips[h].a
        b := sampleLine s.debounceInForce (hasBit grip (gripBit h .b)) s.grips[h].b })
    sockets := Vector.ofFn (fun i => s.sockets[i].tick)
    nozzles := Vector.ofFn (fun h => { a := s.nozzles[h].a.tick, b := s.nozzles[h].b.tick })
    holdTimers := Vector.ofFn (fun h => s.holdTimers[h].tick) }

/-- The tick: what is still due from the last tick has been taken before it (log 3). -/
def tickWith (presence : BitVec 16) (grip : BitVec 8) (s : State) : State := sampleTick presence grip (settle s)

/-- The raw presence levels as last sampled. -/
def heldPresence (s : State) : BitVec 16 :=
  all16.foldl (fun m i => if s.presence[i].raw then addBit m i else m) 0

/-- The raw grip levels as last sampled. -/
def heldGrip (s : State) : BitVec 8 :=
  allHeads.foldl (fun m h =>
    let m1 := if s.grips[h].a.raw then addBit m (gripBit h .a) else m
    if s.grips[h].b.raw then addBit m1 (gripBit h .b) else m1) 0

/-- One port clock: what is due is taken, the divider count advances, and when it reaches the divisor in force a tick
occurs with the raw levels as they were (R139; log 2). -/
def portClock (s : State) : State :=
  let s1 := settle s
  if s1.dividerCount + 1 < s1.divisorInForce.toNat then { s1 with dividerCount := s1.dividerCount + 1 }
  else sampleTick (heldPresence s1) (heldGrip s1) s1

/-! ### The rows -/

/-- TICK (R139, R140). -/
def execTick (presence : BitVec 16) (grip : BitVec 8) (s : State) : Host.Outcome State Fault Refusal :=
  .next (tickWith presence grip s)

/-- FILTERED_LEVEL_CHANGE (R140). A change that is not due is no event and changes nothing (log 3). -/
def execFilteredLevelChange (l : Line) (s : State) : Host.Outcome State Fault Refusal :=
  .next (takeLevelChange l s)

/-- HOLD_TIMER_EXPIRY (R75). -/
def execHoldTimerExpiry (h : HeadIx) (s : State) : Host.Outcome State Fault Refusal :=
  .next (takeHoldExpiry h s)

/-- SEAT_WINDOW_EXPIRY (R119). -/
def execSeatWindowExpiry (i : SocketIx) (s : State) : Host.Outcome State Fault Refusal :=
  .next (takeSeatExpiry i s)

/-- VACATE_WINDOW_EXPIRY (R121). -/
def execVacateWindowExpiry (i : SocketIx) (s : State) : Host.Outcome State Fault Refusal :=
  .next (takeVacateExpiry i s)

/-- DISTURBANCE_TIMER_EXPIRY (R150). -/
def execDisturbanceTimerExpiry (l : Line) (s : State) : Host.Outcome State Fault Refusal :=
  .next (takeDisturbExpiry l s)

/-- RECOVER_COUNTDOWN_EXPIRY (R149). -/
def execRecoverCountdownExpiry (l : Line) (s : State) : Host.Outcome State Fault Refusal :=
  .next (takeRecoverExpiry l s)

end Sys2Proof.Machine
end

