-- ==== Sys2Proof/Machine/Clearance.lean ====
section
/-! DEFINITION. The Clearance Unit: the refusal checks (R63 to R67), the socket and zone stages (R70, R71), NOWAIT
(R72), the wait-for relation and the cycle check (R73), the blocker (R76), clearance (R77), release (R78 to R80), the
fetch (R58 to R62), and the row FETCH. -/

namespace Sys2Proof.Machine

/-! ### The refusal checks (R63 to R67) -/

/-- A nozzle in the simulated copy: a HOLDING nozzle's unit may be unknown (R65, R67). -/
inductive SimNozzle where
  | empty
  | holding (u : Option UnitRec)
  | suspect
  deriving DecidableEq, Repr

/-- The walk's account: the nozzle copy, the nozzles an earlier PICK filled, the sockets emptied and filled by this
order, and whether some leg took the wait condition. -/
structure Walk where
  nozzles : PerNozzle SimNozzle
  filledNozzles : PerNozzle Bool
  emptied : List SocketIx
  filled : List SocketIx
  waits : Bool
  deriving DecidableEq, Repr

/-- A nozzle as the copy starts (R65). -/
def NozzleContent.sim : NozzleContent → SimNozzle
  | .empty => .empty
  | .holding u => .holding (some u)
  | .suspect _ => .suspect

/-- The walk's start (R65, R66). -/
def walkStart (s : State) (h : HeadIx) : Walk where
  nozzles := { a := (s.nozzle h .a).content.sim, b := (s.nozzle h .b).content.sim }
  filledNozzles := { a := false, b := false }
  emptied := []
  filled := []
  waits := false

/-- The conditions a leg at a socket can take (R66). -/
inductive Condition where
  | ready
  | wait
  | refuse
  deriving DecidableEq, Repr

/-- The condition of a PICK at socket i (R66). -/
def pickCondition (s : State) (k : Walk) (i : SocketIx) : Condition :=
  let x := s.sockets[i]
  if k.filled.contains i || k.emptied.contains i then .refuse
  else match x.phase with
    | .disabled | .fault _ _ | .vacating _ _ => .refuse
    | .empty => if x.reservation.isSome then .wait else .refuse
    | .seating _ _ _ | .loaded _ | .testing _ => .wait
    | .tested _ => if x.reservation.isSome || x.sensor != .quiet then .wait else .ready

/-- Ready where the socket is neither reserved nor other than quiet, wait otherwise (R66). -/
def openCondition (x : Socket) : Condition :=
  if x.reservation.isNone && x.sensor == .quiet then .ready else .wait

/-- The condition of a PLACE at socket i (R66). -/
def placeCondition (s : State) (k : Walk) (i : SocketIx) : Condition :=
  let x := s.sockets[i]
  if k.filled.contains i then .refuse
  else match x.phase with
    | .disabled | .fault _ _ => .refuse
    | .empty => openCondition x
    | .seating _ _ _ | .loaded _ | .testing _ | .tested _ | .vacating _ _ =>
      if k.emptied.contains i then openCondition x else .wait

/-- A new unit, as a PICK in an INPUT zone takes it (R67, R126). -/
def newUnit (t : Tag) : UnitRec := { tag := t, insertions := 0, lastSocket := none, result := none }

/-- The DUP TAG check (R132). -/
def dupTag (s : State) (t : Tag) : Bool := tagCarried s t || s.pendingTags.contains t

/-- The unit's result is a class. -/
def UnitRec.classed (u : UnitRec) : Bool :=
  match u.result with
  | some (.cls _) => true
  | _ => false

/-- The RETEST checks of a PLACE of unit u at socket i (R133): true where one fails. -/
def retestFails (s : State) (i : SocketIx) (u : UnitRec) : Bool :=
  u.classed || s.limits.retest ≤ u.insertions || (s.limits.rotate && u.lastSocket == some i)

/-- The bin class check of a PLACE of unit u in zone z (R134): true where it fails. -/
def binFails (s : State) (z : ZoneIx) (u : UnitRec) : Bool :=
  match u.result with
  | some (.cls c) => !hasBit s.zonePage[z].classes c
  | _ => true

/-- Checks 2 to 5 of a PICK in an INPUT zone. -/
def checkInputPick (s : State) (n : NozzleId) (l : Leg) (k : Walk) : Except Reason Walk :=
  if s.drain then .error .drain
  else if k.nozzles.get n != .empty || k.filledNozzles.get n then .error .nozzle
  else if dupTag s l.tag then .error .dupTag
  else .ok { k with
    nozzles := k.nozzles.set n (.holding (some (newUnit l.tag)))
    filledNozzles := k.filledNozzles.set n true }

/-- The unit a PICK at a socket takes: known when the socket is ready (R67). -/
def pickedUnit (s : State) (i : SocketIx) : Condition → Option UnitRec
  | .ready => s.sockets[i].phase.unit
  | _ => none

/-- Checks 3 and 4 of a PICK in a SITE zone. -/
def checkSitePick (s : State) (n : NozzleId) (i : SocketIx) (k : Walk) : Except Reason Walk :=
  let c := pickCondition s k i
  if k.nozzles.get n != .empty || k.filledNozzles.get n then .error .nozzle
  else if c = .refuse then .error .socket
  else .ok { k with
    nozzles := k.nozzles.set n (.holding (pickedUnit s i c))
    filledNozzles := k.filledNozzles.set n true
    emptied := i :: k.emptied
    waits := k.waits || c == .wait }

/-- Checks 3 to 5 of a PLACE in a SITE zone. -/
def checkSitePlace (s : State) (n : NozzleId) (i : SocketIx) (k : Walk) : Except Reason Walk :=
  let c := placeCondition s k i
  match k.nozzles.get n with
  | .empty => .error .nozzle
  | .suspect => .error .nozzle
  | .holding u =>
    if c = .refuse then .error .socket
    else if (u.map (retestFails s i)).getD false then .error .retest
    else .ok { k with
      nozzles := k.nozzles.set n .empty
      filled := i :: k.filled
      waits := k.waits || c == .wait }

/-- Checks 3 and 5 of a PLACE in a BIN zone. -/
def checkBinPlace (s : State) (n : NozzleId) (z : ZoneIx) (k : Walk) : Except Reason Walk :=
  match k.nozzles.get n with
  | .empty => .error .nozzle
  | .suspect => .error .nozzle
  | .holding u =>
    if (u.map (binFails s z)).getD false then .error .bin
    else .ok { k with nozzles := k.nozzles.set n .empty }

/-- The checks 2 to 5 of one leg of head h's order (R63). -/
def checkLeg (s : State) (h : HeadIx) (l : Leg) (k : Walk) : Except Reason Walk :=
  let n := l.nozzle.resolve s.pointers[h]
  match l.action, s.zoneType l.zone with
  | .pick, some .input => checkInputPick s n l k
  | .pick, some .site => checkSitePick s n l.socket k
  | .place, some .site => checkSitePlace s n l.socket k
  | .place, some .bin => checkBinPlace s n l.zone k
  | _, _ => .ok k

/-- The checks of the legs in chain order. -/
def checkLegs (s : State) (h : HeadIx) : List Leg → Walk → Except Reason Walk
  | [], k => .ok k
  | l :: rest, k =>
    match checkLeg s h l k with
    | .ok k1 => checkLegs s h rest k1
    | .error r => .error r

/-- The path check of leg 0 against the resting zone (R64). -/
def pathFromRest (s : State) (h : HeadIx) (legs : List Leg) : Bool :=
  match s.heads[h].resting, legs with
  | some z, l :: _ => l.zone == z || s.adjacent z l.zone
  | none, _ :: _ => false
  | _, [] => true

/-- The refusal checks of head h's order: the first failure, or the walk's account (R63). -/
def refusalChecks (s : State) (h : HeadIx) (legs : List Leg) : Except Reason Walk :=
  if pathFromRest s h legs then checkLegs s h legs (walkStart s h) else .error .path

/-! ### Wait lists and the wait-for relation (R69 to R73) -/

/-- The other heads that stand before head h in a list; every head of it where h does not stand in it (R69;
log 10). -/
def headsBefore (h : HeadIx) (l : List HeadIx) : List HeadIx := l.takeWhile (· != h)

/-- Head h joins a list: at the end, unless it stands there already (R69). -/
def joined (h : HeadIx) (l : List HeadIx) : List HeadIx := if l.contains h then l else l ++ [h]

def joinSocketList (h : HeadIx) (i : SocketIx) (s : State) : State :=
  s.setSocketWaiters i (joined h s.socketWaiters[i])

/-- Head h joins the list of zone z unless it holds it (R71). -/
def joinZoneList (h : HeadIx) (z : ZoneIx) (s : State) : State :=
  if s.zones[z].holder = some h then s else s.setZone z { s.zones[z] with waiters := joined h s.zones[z].waiters }

def joinSockets (h : HeadIx) (l : List SocketIx) (s : State) : State := l.foldl (fun t i => joinSocketList h i t) s

def joinZones (h : HeadIx) (l : List ZoneIx) (s : State) : State := l.foldl (fun t z => joinZoneList h z t) s

/-- The order is socket-blocked (R70). -/
def socketBlocked (s : State) (h : HeadIx) (legs : List Leg) (k : Walk) : Bool :=
  k.waits || (namedSockets s legs).any (fun i => !(headsBefore h s.socketWaiters[i]).isEmpty)

/-- Zone z is available to head h (R71). -/
def zoneAvailable (s : State) (h : HeadIx) (z : ZoneIx) : Bool :=
  s.zones[z].holder == some h || (s.zones[z].holder.isNone && (headsBefore h s.zones[z].waiters).isEmpty)

/-- The order is zone-blocked (R71). -/
def zoneBlocked (s : State) (h : HeadIx) (legs : List Leg) : Bool :=
  !(neededZones s h legs).all (zoneAvailable s h)

/-- The heads that an order of head x naming socket i waits on through that socket, first found first (R73, R76). -/
def socketBlockers (s : State) (x : HeadIx) (i : SocketIx) : List HeadIx :=
  ((s.sockets[i].reservation.map Prod.fst).toList ++ headsBefore x s.socketWaiters[i]).filter (· != x)

/-- The heads that an order of head x in ZONE WAIT waits on through zone z (R73, R76). -/
def zoneBlockers (s : State) (x : HeadIx) (z : ZoneIx) : List HeadIx :=
  if s.zones[z].holder = some x then []
  else (s.zones[z].holder.toList ++ headsBefore x s.zones[z].waiters).filter (· != x)

/-- The heads one leg of x's held order waits on: its socket, then in ZONE WAIT its zone (R73, R76). -/
def legBlockers (s : State) (x : HeadIx) (inZoneWait : Bool) (l : Leg) : List HeadIx :=
  (match legSocket s l with
    | some i => socketBlockers s x i
    | none => []) ++
  (if inZoneWait then zoneBlockers s x l.zone else [])

/-- The heads that x's order at its fetch index waits on, in the order of the blocker's search (R73, R76). -/
def waitsOn (s : State) (x : HeadIx) : List HeadIx :=
  let o := s.orderAt x
  let zw := o.state == .zoneWait
  if o.state.held then
    o.chain.flatMap (legBlockers s x zw) ++
      (if zw then s.heads[x].resting.toList.flatMap (zoneBlockers s x) else [])
  else []

/-- The edges of the wait-for relation (R73). -/
def waitEdges (s : State) : List (HeadIx × HeadIx) :=
  allHeads.flatMap (fun x => (waitsOn s x).map (fun y => (x, y)))

/-- A set of heads with the heads they wait on. -/
def growBy (edges : List (HeadIx × HeadIx)) (xs : List HeadIx) : List HeadIx :=
  allHeads.filter (fun y => xs.contains y || edges.any (fun e => e.2 == y && xs.contains e.1))

/-- The heads that x waits on, directly or through others; four heads make three further rounds enough. -/
def waitsOnThrough (edges : List (HeadIx × HeadIx)) (x : HeadIx) : List HeadIx :=
  growBy edges (growBy edges (growBy edges (allHeads.filter (fun y => edges.contains (x, y)))))

/-- The wait-for relation holds a cycle (R73). -/
def waitCycle (s : State) : Bool :=
  let edges := waitEdges s
  allHeads.any (fun x => (waitsOnThrough edges x).contains x)

/-! ### The outcomes of an evaluation -/

/-- The word a drive's fetch returns. -/
def answer (h : HeadIx) (w : Word) (s : State) : State := returnWord (.drive h) w s

/-- Head h's fetch index advances by one, modulo 16 (R40). -/
def advanceFetch (h : HeadIx) (s : State) : State := s.setFetchIndex h (s.fetchIndex[h] + 1)

/-- The order in slot k of head h is refused at its evaluation: it leaves its lists, skip given is set, the fetch
index advances, and SKIP is returned (R58, R63, R74). -/
def refuseAtFetch (h : HeadIx) (k : SlotIx) (r : Reason) (s : State) : State :=
  answer h (substSkip k r) (advanceFetch h (refuseOrder h k r true (stopHolding h s)))

/-- The hold timer of head h starts: 10 ticks for each unit of the hold limit; a limit of 0 counts nothing (R75). -/
def startHold (h : HeadIx) (s : State) : State :=
  s.setHoldTimer h
    (if s.limits.hold = 0 then .unlimited else .running (Config.ticksPerTen * s.limits.hold.toNat))

/-- The order's blocker is found anew, and the fetch returns DWELL (R70, R71, R76). -/
def keepHeld (h : HeadIx) (k : SlotIx) (s : State) : State :=
  answer h (substDwell k) (s.setOrder h k { s.order h k with blocker := (waitsOn s h).head? })

/-- The order, which has joined its lists, comes into SOCKET WAIT or ZONE WAIT: from POSTED its hold timer starts; a
cycle refuses it with DEADLOCK (R70, R71, R73, R75). -/
def enterHeld (h : HeadIx) (k : SlotIx) (st : OrderState) (fromPosted : Bool) (s : State) : State :=
  let s1 := s.setOrder h k { s.order h k with state := st }
  let s2 := if fromPosted then startHold h s1 else s1
  if waitCycle s2 then refuseAtFetch h k .deadlock s2 else keepHeld h k s2

/-- A tag joins the pending set, which holds no tag twice (R131). -/
def pendTag (t : Tag) (l : List Tag) : List Tag := if l.contains t then l else t :: l

/-- The tags of the input picks of some legs, in chain order. -/
def inputTags (s : State) (legs : List Leg) : List Tag := (legs.filter (inputPick s)).map Leg.tag

/-- Head h becomes the holder of a zone (R68). -/
def claimZone (h : HeadIx) (z : ZoneIx) (s : State) : State := s.setZone z { s.zones[z] with holder := some h }

def claimZones (h : HeadIx) (l : List ZoneIx) (s : State) : State := l.foldl (fun t z => claimZone h z t) s

/-- A socket is reserved to head h and slot k (R77, R106). -/
def reserveSocket (h : HeadIx) (k : SlotIx) (i : SocketIx) (s : State) : State :=
  s.setSocket i { s.sockets[i] with reservation := some (h, k) }

def reserveSockets (h : HeadIx) (k : SlotIx) (l : List SocketIx) (s : State) : State :=
  l.foldl (fun t i => reserveSocket h k i t) s

/-- The pending tags of some legs join the set (R77). -/
def pendTags (l : List Tag) (s : State) : State :=
  { s with pendingTags := l.foldl (fun ts t => pendTag t ts) s.pendingTags }

/-- The order in slot k of head h is cleared, and the true header is returned (R77). The lines of its first leg
become unwatched (R142). -/
def clearOrder (h : HeadIx) (k : SlotIx) (legs : List Leg) (s : State) : State :=
  let s1 := pendTags (inputTags s legs)
    (stopHolding h (reserveSockets h k (namedSockets s legs) (claimZones h (neededZones s h legs) s)))
  let s2 := s1.setOrder h k
    { s1.order h k with state := .cleared, blocker := none, resolved := some s1.pointers[h] }
  answer h (dcmRead s2.dcm (headerAddr h k)) (compareLines (linesOf s2 h legs) s2)

/-- The zone stage of an order that is not socket-blocked (R71, R72, R77). -/
def zoneStage (h : HeadIx) (k : SlotIx) (legs : List Leg) (s : State) : State :=
  let o := s.order h k
  if zoneBlocked s h legs then
    if o.state = .posted ∧ o.nowait = some true then refuseAtFetch h k .busy s
    else if o.state = .zoneWait then keepHeld h k s
    else enterHeld h k .zoneWait (o.state == .posted) (joinZones h (neededZones s h legs) s)
  else clearOrder h k legs s

/-- The evaluation of a POSTED or held order in slot k of head h (R62). -/
def evaluate (h : HeadIx) (k : SlotIx) (s : State) : State :=
  let o := s.order h k
  let legs := o.chain
  match refusalChecks s h legs with
  | .error r => refuseAtFetch h k r s
  | .ok walk =>
    if socketBlocked s h legs walk then
      if o.state = .posted ∧ o.nowait = some true then refuseAtFetch h k .busy s
      else if o.state = .socketWait then keepHeld h k s
      else enterHeld h k .socketWait (o.state == .posted) (joinSockets h (namedSockets s legs) s)
    else zoneStage h k legs s

/-! ### The fetch (R59 to R62) -/

/-- A fetch away from the fetch index is counted and captured, and returns NONE (R59). -/
def fetchOutOfOrder (h : HeadIx) (k : SlotIx) (s : State) : State :=
  answer h substNone
    (captureFault { kind := .fetchOrder, head := some h, socket := none, slot := some k, detail := 0 }
      (countFetchOrder h s))

/-- A fetch that finds a POSTED or held order (R61, R62). -/
def fetchLive (h : HeadIx) (k : SlotIx) (s : State) : State :=
  if s.heads[h].faulted then answer h substHalt s
  else if masked s h then answer h (if effectiveHalt s h then substHalt else substDwell k) s
  else evaluate h k s

/-- A refused order at the fetch index is passed over once (R58, R60). -/
def passOver (h : HeadIx) (k : SlotIx) (r : Reason) (s : State) : State :=
  if (s.order h k).skipGiven then answer h substNone s
  else answer h (substSkip k r) (advanceFetch h (s.setOrder h k { s.order h k with skipGiven := true }))

/-- A fetch at the fetch index, by the state of the slot's record (R60). -/
def fetchAtIndex (h : HeadIx) (k : SlotIx) (s : State) : State :=
  match (s.order h k).state with
  | .free | .filling | .done | .aborted _ => answer h substNone s
  | .refused r => passOver h k r s
  | .cleared => answer h (dcmRead s.dcm (headerAddr h k)) s
  | .posted | .socketWait | .zoneWait => fetchLive h k s

/-- A drive's read of header word k of its own ring, from its grant on (R8, R59). -/
def fetchHeader (h : HeadIx) (k : SlotIx) (s : State) : State :=
  let s1 := s.grant (.drive h)
  if s1.mode = .setup ∨ s1.headPage[h].present = false ∨ s1.heads[h].online = false then answer h substNone s1
  else if k = s1.fetchIndex[h] then fetchAtIndex h k s1
  else fetchOutOfOrder h k s1

/-! ### Release (R78 to R80) -/

/-- Every zone that head h holds, but those of keep, loses its holder (R78, R79, R80). -/
def releaseBut (h : HeadIx) (keep : List ZoneIx) (s : State) : State :=
  { s with zones := Vector.ofFn (fun z =>
      if s.zones[z].holder = some h ∧ keep.contains z = false then { s.zones[z] with holder := none }
      else s.zones[z]) }

/-- Head h's resting zone becomes z. -/
def setResting (h : HeadIx) (z : Option ZoneIx) (s : State) : State := s.setHead h { s.heads[h] with resting := z }

/-- Head h keeps only some zones, and rests in z (R78, R79, R80). -/
def releaseTo (h : HeadIx) (z : ZoneIx) (keep : List ZoneIx) (s : State) : State :=
  setResting h (some z) (releaseBut h (z :: keep) s)

/-! ### The row -/

/-- FETCH (R58 to R77). -/
def execFetch (h : HeadIx) (k : SlotIx) (s : State) : Host.Outcome State Fault Refusal :=
  .next (fetchHeader h k s)

end Sys2Proof.Machine
end

