-- ==== Sys2Proof/Machine/Sockets.lean ====
section
/-! DEFINITION. The Socket Table: the socket commands (R107 to R113), the changes at a reported pick or place and at a
leg failure (R114 to R117), and the rows ENABLE, DISABLE, START, RESULT, ABORT, CLEAR_FAULT and
SOCKET_BAD_COMMAND. -/

namespace Sys2Proof.Machine

/-! ### Socket commands -/

/-- What a command's own checks and effect give: the changed state, or the refusal, which changes nothing (R107). -/
inductive SocketAnswer where
  | accepted (s : State)
  | refused (r : SocketResult)

/-- The command's result becomes socket i's last command result (R107). -/
def recordSocketResult (i : SocketIx) (r : SocketResult) (s : State) : State :=
  s.setSocket i { s.sockets[i] with lastResult := r }

/-- The socket's answer, recorded. -/
def finishSocketCommand (i : SocketIx) (s : State) : SocketAnswer → State
  | .accepted t => recordSocketResult i .accepted t
  | .refused r => recordSocketResult i r s

/-- The filtered presence of socket i's line is ON. -/
def seated (s : State) (i : SocketIx) : Bool := s.level (.presence i)

/-- Socket i changes its state by a command, and its line is compared (R104, R143). -/
def commandPhase (i : SocketIx) (p : Phase) (s : State) : State :=
  compareLine (.presence i) (changePhase i p s)

/-- ENABLE (R108). -/
def enableSocket (i : SocketIx) (s : State) : SocketAnswer :=
  match s.sockets[i].phase with
  | .disabled =>
    if seated s i then
      .accepted (captureFault { kind := .stray, head := none, socket := some i, slot := none, detail := 0 }
        (commandPhase i (.fault .stray none) s))
    else .accepted (commandPhase i .empty s)
  | _ => .refused .state

/-- DISABLE (R109). -/
def disableSocket (i : SocketIx) (s : State) : SocketAnswer :=
  match s.sockets[i].phase with
  | .empty =>
    if s.sockets[i].reservation.isNone && s.socketWaiters[i].isEmpty then .accepted (commandPhase i .disabled s)
    else .refused .busy
  | _ => .refused .state

/-- START (R110). -/
def startTest (i : SocketIx) (s : State) : SocketAnswer :=
  match s.sockets[i].phase with
  | .loaded u => .accepted (changePhase i (.testing u) s)
  | .seating _ _ _ => .refused .notSeated
  | .vacating _ _ => .refused .notSeated
  | _ => .refused .state

/-- The class of the overflow field (R111); MODE RUN keeps the field in 0 to 7 (log 11). -/
def overflowClass (s : State) : ClassIx := Fin.ofNat 8 s.limits.overflowClass.toNat

/-- The result a unit takes from a RESULT command (R111, R128). -/
def resultFor (s : State) (u : UnitRec) : UnitResult → UnitResult
  | .cls c => .cls c
  | .retest => if u.insertions < s.limits.retest then .retest else .cls (overflowClass s)

/-- RESULT with a result that the code names (R111). -/
def giveResult (i : SocketIx) (r : UnitResult) (s : State) : SocketAnswer :=
  match s.sockets[i].phase with
  | .testing u => .accepted (changePhase i (.tested { u with result := some (resultFor s u r) }) s)
  | _ => .refused .state

/-- ABORT (R112). -/
def abortTest (i : SocketIx) (s : State) : SocketAnswer :=
  match s.sockets[i].phase with
  | .testing u => .accepted (changePhase i (.loaded u) s)
  | _ => .refused .state

/-- DISCARDED counts so many discarded units (R130). -/
def countDiscards (n : Nat) (s : State) : State := { s with discarded := s.discarded + BitVec.ofNat 32 n }

/-- The state that CLEAR FAULT takes a socket with unit u to, presence being ON (R113). -/
def clearedPhase (u : UnitRec) : Phase := if u.result.isSome then .tested u else .loaded u

/-- CLEAR FAULT (R113). -/
def clearSocketFault (i : SocketIx) (s : State) : SocketAnswer :=
  match s.sockets[i].phase with
  | .fault _ unit =>
    if s.sockets[i].reservation.isSome then .refused .busy
    else match seated s i, unit with
      | true, none => .refused .stillPresent
      | true, some u => .accepted (commandPhase i (clearedPhase u) s)
      | false, u => .accepted (commandPhase i .empty (countDiscards u.toList.length s))
  | _ => .refused .state

/-- What a socket command answers in RUN (R107, check 3). -/
def socketAnswer (c : SocketCommand) (i : SocketIx) (w : Word) (s : State) : SocketAnswer :=
  match c with
  | .enable => enableSocket i s
  | .disable => disableSocket i s
  | .start => startTest i s
  | .result =>
    match socketWordResult w with
    | some r => giveResult i r s
    | none => .refused .badCommand
  | .abort => abortTest i s
  | .clearFault => clearSocketFault i s

/-- A controller write of socket i's command word: it reaches memory, and its checks run in the order of R107. -/
def socketCommandWrite (i : SocketIx) (w : Word) (s : State) : State :=
  let s1 := passWrite .controller (socketCommandAddr i) w s
  match socketWordCommand w with
  | none => recordSocketResult i .badCommand s1
  | some c =>
    match s1.mode with
    | .setup => recordSocketResult i .mode s1
    | .run => finishSocketCommand i s1 (socketAnswer c i w s1)

/-! ### Pick and place at a socket (R114 to R117) -/

/-- A pick was taken from socket i by head h (R114). -/
def pickTaken (i : SocketIx) (h : HeadIx) (s : State) : State :=
  changePhase i (if seated s i then .vacating h (windowTicks s) else .empty) s

/-- A pick was missed at socket i (R115). -/
def pickMissed (i : SocketIx) (s : State) : State := changePhase i (.fault .mispick s.sockets[i].phase.unit) s

/-- A unit was placed in socket i by head h (R116). -/
def unitPlaced (i : SocketIx) (h : HeadIx) (u : UnitRec) (s : State) : State :=
  changePhase i (if seated s i then .loaded u else .seating u h (windowTicks s)) s

/-- A place was missed at socket i, or met a socket still VACATING; a socket in FAULT stays as it is (R116). -/
def placeMissed (i : SocketIx) (s : State) : State :=
  match s.sockets[i].phase with
  | .fault _ _ => s
  | .vacating _ _ => changePhase i (.fault .stuck none) s
  | p => changePhase i (.fault .misplace p.unit) s

/-- A failed leg's order leaves socket i, which it reserved (R117). -/
def legFailSocket (i : SocketIx) (s : State) : State :=
  dropReservation i (changePhase i (.fault .legFail s.sockets[i].phase.unit) s)

/-! ### The rows -/

/-- ENABLE (R107, R108). -/
def execEnable (i : SocketIx) (body : BitVec 28) (s : State) : Host.Outcome State Fault Refusal :=
  .next (socketCommandWrite i (socketWord .enable body) s)

/-- DISABLE (R107, R109). -/
def execDisable (i : SocketIx) (body : BitVec 28) (s : State) : Host.Outcome State Fault Refusal :=
  .next (socketCommandWrite i (socketWord .disable body) s)

/-- START (R107, R110). -/
def execStart (i : SocketIx) (body : BitVec 28) (s : State) : Host.Outcome State Fault Refusal :=
  .next (socketCommandWrite i (socketWord .start body) s)

/-- RESULT (R107, R111). -/
def execResult (i : SocketIx) (body : BitVec 28) (s : State) : Host.Outcome State Fault Refusal :=
  .next (socketCommandWrite i (socketWord .result body) s)

/-- ABORT (R107, R112). -/
def execAbort (i : SocketIx) (body : BitVec 28) (s : State) : Host.Outcome State Fault Refusal :=
  .next (socketCommandWrite i (socketWord .abort body) s)

/-- CLEAR_FAULT (R107, R113). -/
def execClearFault (i : SocketIx) (body : BitVec 28) (s : State) : Host.Outcome State Fault Refusal :=
  .next (socketCommandWrite i (socketWord .clearFault body) s)

/-- SOCKET_BAD_COMMAND (R107). A word that does name a command has that command's effect (log 9). -/
def execSocketBadCommand (i : SocketIx) (w : Word) (s : State) : Host.Outcome State Fault Refusal :=
  .next (socketCommandWrite i w s)

end Sys2Proof.Machine
end

