-- ==== Sys2Proof/Machine/Status.lean ====
section
/-! DEFINITION. The control word's result (R11, R14), Status and Capture's and the Unit Registry's commands, the
resets, and the rows POWER_ON_RESET, DECK_RESET, DRAIN, UNDRAIN, CLEAR_TALLIES, CLEAR_CAPTURE, CLEAR_COUNTERS and
STATUS_WORD_0_READ. -/

namespace Sys2Proof.Machine

/-! ### The control word (R11, R14) -/

/-- A controller write of the control word: it reaches memory, its owning block answers, and the control result word
takes the code as written and the result (R11, R14). -/
def controlWrite (w : Word) (block : State → State × ControlResult) (s : State) : State :=
  let r := block (passWrite .controller controlAddr w s)
  { r.1 with controlCode := ctlCode w, controlResult := r.2 }

/-! ### The resets (R13, R15) -/

/-- Socket record x at a reset of the deck: DISABLED with its last command result kept (R105). -/
def Socket.reset (x : Socket) : Socket :=
  { phase := .disabled, reservation := none, sensor := .quiet, lastResult := x.lastResult }

/-- Every block in its DECK RESET state, before the snapshot (R13's table). -/
def deckCleared (s : State) : State :=
  { s with
    mode := .setup
    slots := Vector.replicate 4 (Vector.replicate 16 Order.freed)
    fetchIndex := Vector.replicate 4 0
    expectedSeq := Vector.replicate 4 0
    zones := Vector.replicate 16 { holder := none, waiters := [] }
    socketWaiters := Vector.replicate 16 []
    holdTimers := Vector.replicate 4 .stopped
    nozzles := Vector.replicate 4 { a := ⟨.empty, .quiet⟩, b := ⟨.empty, .quiet⟩ }
    pointers := Vector.replicate 4 .a
    sockets := Vector.ofFn (fun i => s.sockets[i].reset)
    discarded := s.discarded + BitVec.ofNat 32 (unitsCarried s)
    pendingTags := []
    drain := false
    heads := Vector.replicate 4 .offDeck }

/-- DECK RESET's effect in every block, the snapshot last (R13, R169). -/
def deckReset (s : State) : State := takeSnapshot (deckCleared s)

/-- A line's filter at power-on reset: level OFF, run count 0; the raw level is the pin's (R141; log 7). -/
def LineFilter.powerOn (f : LineFilter) : LineFilter := { LineFilter.off with raw := f.raw }

/-- The power-on state of every block. The memory, the pins' levels, the words already returned and the commands still
waiting are outside the blocks and stay (R15; log 15). -/
def powerOn (s : State) : State :=
  takeSnapshot
    { State.reset with
      pending := s.pending
      dcm := s.dcm
      controllerData := s.controllerData
      driveData := s.driveData
      presence := Vector.ofFn (fun i => s.presence[i].powerOn)
      grips := Vector.ofFn (fun h => { a := s.grips[h].a.powerOn, b := s.grips[h].b.powerOn })
      freeDraws := s.freeDraws }

/-! ### The commands -/

/-- DECK RESET (R13). -/
def takeDeckReset (s : State) : State × ControlResult := (deckReset s, .accepted)

/-- DRAIN (R137). -/
def takeDrain (s : State) : State × ControlResult :=
  match s.mode with
  | .setup => (s, .mode)
  | .run => ({ s with drain := true }, .accepted)

/-- UNDRAIN (R137). -/
def takeUndrain (s : State) : State × ControlResult := ({ s with drain := false }, .accepted)

/-- CLEAR TALLIES (R136). -/
def takeClearTallies (s : State) : State × ControlResult :=
  if unitsCarried s = 0 then ({ s with picked := 0, discarded := 0, delivered := Vector.replicate 8 0 }, .accepted)
  else (s, .units)

/-- CLEAR CAPTURE (R174). -/
def takeClearCapture (s : State) : State × ControlResult :=
  ({ s with capture := Vector.replicate 4 none, overflow := false, headsSeen := 0 }, .accepted)

/-- CLEAR COUNTERS (R176). -/
def takeClearCounters (s : State) : State × ControlResult :=
  ({ s with counters := Vector.replicate 4 .zero, controllerProtect := 0, profileRefused := 0 }, .accepted)

/-! ### Status word 0 (R169) -/

/-- A controller read of status word 0: a snapshot is taken and its word 0 returned. -/
def readStatusWord0 (s : State) : State :=
  let t := takeSnapshot (s.grant .controller)
  returnWord .controller t.snapshot[0] t

/-! ### The rows -/

/-- POWER_ON_RESET (R15). -/
def execPowerOnReset (s : State) : Host.Outcome State Fault Refusal :=
  .next (powerOn s)

/-- DECK_RESET (R13). -/
def execDeckReset (body : BitVec 24) (s : State) : Host.Outcome State Fault Refusal :=
  .next (controlWrite (controlWord .deckReset body) takeDeckReset s)

/-- DRAIN (R137). -/
def execDrain (body : BitVec 24) (s : State) : Host.Outcome State Fault Refusal :=
  .next (controlWrite (controlWord .drain body) takeDrain s)

/-- UNDRAIN (R137). -/
def execUndrain (body : BitVec 24) (s : State) : Host.Outcome State Fault Refusal :=
  .next (controlWrite (controlWord .undrain body) takeUndrain s)

/-- CLEAR_TALLIES (R136). -/
def execClearTallies (body : BitVec 24) (s : State) : Host.Outcome State Fault Refusal :=
  .next (controlWrite (controlWord .clearTallies body) takeClearTallies s)

/-- CLEAR_CAPTURE (R174). -/
def execClearCapture (body : BitVec 24) (s : State) : Host.Outcome State Fault Refusal :=
  .next (controlWrite (controlWord .clearCapture body) takeClearCapture s)

/-- CLEAR_COUNTERS (R176). -/
def execClearCounters (body : BitVec 24) (s : State) : Host.Outcome State Fault Refusal :=
  .next (controlWrite (controlWord .clearCounters body) takeClearCounters s)

/-- STATUS_WORD_0_READ (R169). -/
def execStatusWord0Read (s : State) : Host.Outcome State Fault Refusal :=
  .next (readStatusWord0 s)

end Sys2Proof.Machine
end

