-- ==== Sys2Proof/Machine/Heads.lean ====
section
/-! DEFINITION. Head Control: HEAD ONLINE (R156), HEAD OFFLINE (R157), MASK and MASK CLEAR (R162, R163), HEAD RECOVER
(R165, R166), and the rows of those commands. -/

namespace Sys2Proof.Machine

/-! ### HEAD ONLINE -/

/-- Check 3 of HEAD ONLINE: zone z is a PARK zone in head h's reach, with no holder and an empty wait list (R156). -/
def parkable (s : State) (h : HeadIx) (z : ZoneIx) : Bool :=
  s.zoneType z == some .park && s.reaches h z && s.zones[z].holder.isNone && s.zones[z].waiters.isEmpty

/-- The record of a head just brought online in zone z (R156). -/
def HeadRec.fresh (z : ZoneIx) : HeadRec := { HeadRec.offDeck with online := true, resting := some z }

/-- Head h comes onto the deck (R156). -/
def bringOnline (h : HeadIx) (z : ZoneIx) (f : SlotIx) (q : Seq) (s : State) : State :=
  let s1 := (claimZone h z s).setHead h (.fresh z)
  let s2 := (setContent h .b .empty (setContent h .a .empty s1)).setPointer h .a
  compareLines (linesOf s2 h []) ((s2.setFetchIndex h f).setExpectedSeq h q)

/-- HEAD ONLINE (R156). -/
def takeHeadOnline (w : Word) (s : State) : State × ControlResult :=
  let h := ctlHead w
  match s.mode with
  | .setup => (s, .mode)
  | .run =>
    if s.headPage[h].present = false ∨ s.heads[h].online = true then (s, .state)
    else if parkable s h (ctlZone w) = false then (s, .zone)
    else if s.level (.grip h .a) || s.level (.grip h .b) then (s, .occupied)
    else (bringOnline h (ctlZone w) (ctlFetchSlot w) (ctlSeq w) s, .accepted)

/-! ### HEAD OFFLINE -/

/-- Head h gives up its resting zone (R80). -/
def leaveResting (h : HeadIx) (s : State) : State :=
  match s.heads[h].resting with
  | some z => if s.zones[z].holder = some h then s.setZone z { s.zones[z] with holder := none } else s
  | none => s

/-- Step 1 of HEAD OFFLINE: a WAITING head's order is refused and leaves its lists (R157). -/
def refuseWaiting (h : HeadIx) (s : State) : State :=
  if (s.orderAt h).state.held then refuseOrder h s.fetchIndex[h] .offline false (stopHolding h s) else s

/-- Head h leaves the deck (R157). -/
def takeOffDeck (h : HeadIx) (s : State) : State :=
  let s1 := (leaveResting h (refuseWaiting h s)).setHead h .offDeck
  compareLines (linesOf s1 h []) s1

/-- Both nozzles of head h are EMPTY. -/
def nozzlesEmpty (s : State) (h : HeadIx) : Bool :=
  (s.nozzle h .a).content == .empty && (s.nozzle h .b).content == .empty

/-- HEAD OFFLINE (R157). -/
def takeHeadOffline (w : Word) (s : State) : State × ControlResult :=
  let h := ctlHead w
  match s.mode with
  | .setup => (s, .mode)
  | .run =>
    match headState s h with
    | .offline | .moving | .faulted => (s, .state)
    | .idle | .waiting => if nozzlesEmpty s h then (takeOffDeck h s, .accepted) else (s, .occupied)

/-! ### MASK and MASK CLEAR -/

/-- MASK (R162). -/
def takeMask (w : Word) (s : State) : State × ControlResult :=
  let h := ctlHead w
  match s.mode with
  | .setup => (s, .mode)
  | .run => if s.heads[h].online then (giveCause .operator h s, .accepted) else (s, .state)

/-- Every mask cause of head h is cleared and its stray source set emptied (R163). -/
def clearMask (h : HeadIx) (s : State) : State :=
  s.setHead h { s.heads[h] with causes := 0, stray := Vector.replicate 18 none }

/-- MASK CLEAR (R163). -/
def takeMaskClear (w : Word) (s : State) : State × ControlResult :=
  let h := ctlHead w
  match s.mode with
  | .setup => (s, .mode)
  | .run => if s.heads[h].online then (clearMask h s, .accepted) else (s, .state)

/-! ### HEAD RECOVER -/

/-- Check 3 of HEAD RECOVER: a FAULTED head holds the zone, an IDLE head rests in it (R165). -/
def recoverZone (s : State) (h : HeadIx) (z : ZoneIx) : Bool :=
  if s.heads[h].faulted then s.zones[z].holder == some h else s.heads[h].resting == some z

/-- What a nozzle's action is refused with, if its condition fails (R165). -/
def actionRefusal (s : State) (h : HeadIx) (n : NozzleId) : NozzleAction → Option ControlResult
  | .leave =>
    match (s.nozzle h n).content with
    | .suspect _ => some .state
    | _ => none
  | .keep =>
    match (s.nozzle h n).content, s.level (.grip h n) with
    | .suspect (some _), true => none
    | _, _ => some .state
  | .discard => if s.level (.grip h n) then some .occupied else none

/-- A nozzle's content kept: the SUSPECT nozzle becomes HOLDING with the unit it carries (R166). -/
def NozzleContent.kept : NozzleContent → NozzleContent
  | .suspect (some u) => .holding u
  | c => c

/-- A nozzle is changed by its action (R166, R130). -/
def applyAction (h : HeadIx) (n : NozzleId) (a : NozzleAction) (s : State) : State :=
  match a with
  | .leave => s
  | .keep => setContent h n (s.nozzle h n).content.kept s
  | .discard =>
    countDiscards (s.nozzle h n).content.unit.toList.length (setContent h n .empty s)

/-- An accepted HEAD RECOVER (R166). -/
def recoverHead (h : HeadIx) (z : ZoneIx) (a b : NozzleAction) (s : State) : State :=
  let s1 := releaseTo h z [] (applyAction h .b b (applyAction h .a a s))
  let s2 := s1.setHead h { s1.heads[h] with faulted := false }
  compareLines (linesOf s2 h []) s2

/-- HEAD RECOVER's checks 2 to 5 in RUN, both actions being named (R165). -/
def checkRecover (h : HeadIx) (z : ZoneIx) (a b : NozzleAction) (s : State) : State × ControlResult :=
  match headState s h with
  | .offline | .waiting | .moving => (s, .state)
  | .idle | .faulted =>
    if recoverZone s h z = false then (s, .zone)
    else match actionRefusal s h .a a, actionRefusal s h .b b with
      | some r, _ => (s, r)
      | none, some r => (s, r)
      | none, none => (recoverHead h z a b s, .accepted)

/-- HEAD RECOVER (R12, R165, R166). -/
def takeHeadRecover (w : Word) (s : State) : State × ControlResult :=
  match ctlAction w .a, ctlAction w .b with
  | some a, some b =>
    match s.mode with
    | .setup => (s, .mode)
    | .run => checkRecover (ctlHead w) (ctlZone w) a b s
  | _, _ => (s, .badCommand)

/-! ### The rows -/

/-- HEAD_ONLINE (R156). -/
def execHeadOnline (body : BitVec 24) (s : State) : Host.Outcome State Fault Refusal :=
  .next (controlWrite (controlWord .headOnline body) (takeHeadOnline (controlWord .headOnline body)) s)

/-- HEAD_OFFLINE (R157). -/
def execHeadOffline (body : BitVec 24) (s : State) : Host.Outcome State Fault Refusal :=
  .next (controlWrite (controlWord .headOffline body) (takeHeadOffline (controlWord .headOffline body)) s)

/-- HEAD_RECOVER (R165). -/
def execHeadRecover (body : BitVec 24) (s : State) : Host.Outcome State Fault Refusal :=
  .next (controlWrite (controlWord .headRecover body) (takeHeadRecover (controlWord .headRecover body)) s)

/-- MASK (R162). -/
def execMask (body : BitVec 24) (s : State) : Host.Outcome State Fault Refusal :=
  .next (controlWrite (controlWord .mask body) (takeMask (controlWord .mask body)) s)

/-- MASK_CLEAR (R163). -/
def execMaskClear (body : BitVec 24) (s : State) : Host.Outcome State Fault Refusal :=
  .next (controlWrite (controlWord .maskClear body) (takeMaskClear (controlWord .maskClear body)) s)

end Sys2Proof.Machine
end

