-- ==== Sys2Proof/Machine/Profile.lean ====
section
/-! DEFINITION. The Profile Store: the page/address counter and the profile words (R16 to R27), the checks of MODE RUN
(R30), entry to RUN (R31), MODE SETUP (R32), and the rows PROFILE_PAGE_WRITE, PROFILE_ADDRESS_WRITE,
PROFILE_DATA_WRITE, PROFILE_DATA_READ, MODE_RUN and MODE_SETUP. -/

namespace Sys2Proof.Machine

/-! ### The counter and the profile words -/

/-- The counter after a page word write (R22). -/
def pageCounter (w : Word) : Counter := { page := pageOfWord w, entry := 0, down := false, overrun := false }

/-- The counter after an address word write (R23). -/
def addressCounter (c : Counter) (w : Word) : Counter :=
  let e := addressEntry w
  if e.val ≤ c.page.last then { c with entry := e, down := addressDown w, overrun := false }
  else { c with entry := Fin.ofNat 16 c.page.last, down := addressDown w, overrun := true }

/-- A move of the counter (R26). -/
def Counter.move (c : Counter) : Counter :=
  if c.down then
    if c.entry.val = 0 then { c with overrun := true } else { c with entry := Fin.ofNat 16 (c.entry.val - 1) }
  else
    if c.page.last ≤ c.entry.val then { c with overrun := true }
    else { c with entry := Fin.ofNat 16 (c.entry.val + 1) }

/-- The word stored into the entry at the counter, field by field (R16). -/
def storeEntry (w : Word) (s : State) : State :=
  match s.counter.page with
  | .zone => { s with zonePage := s.zonePage.set s.counter.entry (zoneEntryOfWord w) }
  | .socket => { s with socketPage := s.socketPage.set s.counter.entry (socketEntryOfWord w) }
  | .head => { s with headPage := s.headPage.set (Fin.ofNat 4 s.counter.entry.val) (headEntryOfWord w) }
  | .limits => { s with limits := limitsWithEntry s.limits s.counter.entry.val w }

/-- The profile result word records a result at the counter's page and entry, check 0 (R24, R27). -/
def recordAtCounter (code : ProfileCode) (s : State) : State :=
  { s with profileResult := { code := code, page := s.counter.page, entry := s.counter.entry, check := 0 } }

/-- The counter moves (R26). -/
def moveCounter (s : State) : State := { s with counter := s.counter.move }

/-- A controller write of the page word (R22). -/
def writePageWord (w : Word) (s : State) : State :=
  { passWrite .controller profilePageAddr w s with counter := pageCounter w }

/-- A controller write of the address word (R23). -/
def writeAddressWord (w : Word) (s : State) : State :=
  { passWrite .controller profileAddressAddr w s with counter := addressCounter s.counter w }

/-- A controller write of the data word (R24). -/
def writeDataWord (w : Word) (s : State) : State :=
  let s1 := passWrite .controller profileDataAddr w s
  match s.mode with
  | .run => { recordAtCounter .mode s1 with profileRefused := countUp s.profileRefused }
  | .setup =>
    if s.counter.overrun then s1 else moveCounter (recordAtCounter .accepted (storeEntry w s1))

/-- A controller read of the data word (R25). -/
def readDataWord (s : State) : State :=
  let s1 := s.grant .controller
  if s.counter.overrun then returnWord .controller 0 s1
  else moveCounter (returnWord .controller (profileEntryWord s s.counter.page s.counter.entry) s1)

/-! ### The checks of MODE RUN (R30) -/

/-- A failed check: its number, and the page and entry reported. -/
structure FailedCheck where
  check : BitVec 8
  page : Page
  entry : Fin 16
  deriving DecidableEq, Repr

/-- The first of the entries that fails, reported under a check and a page. -/
def firstFailing (check : BitVec 8) (page : Page) (entries : List (Fin 16)) (passes : Fin 16 → Bool) :
    Option FailedCheck :=
  (entries.find? (fun e => !passes e)).map (fun e => { check := check, page := page, entry := e })

/-- The number of sockets whose entry names zone z. -/
def socketsInZone (s : State) (z : ZoneIx) : Nat := all16.countP (fun i => s.socketPage[i].zone == z)

/-- The class is in the class mask of some BIN zone. -/
def classHasBin (s : State) (c : Nat) : Bool :=
  all16.any (fun z => s.zoneType z == some .bin && hasBit s.zonePage[z].classes c)

/-- The entries of the heads and of the classes, as entry numbers of the profile result word. -/
def headEntries : List (Fin 16) := [0, 1, 2, 3]
def classEntries : List (Fin 16) := [0, 1, 2, 3, 4, 5, 6, 7]

/-- The HEAD entry an entry number names. -/
def headEntryAt (s : State) (e : Fin 16) : HeadEntry := s.headPage[Fin.ofNat 4 e.val]

/-- A limit at least lo and at most hi. -/
def limitIn (lo hi v : Nat) : Bool := lo ≤ v && v ≤ hi

/-- The checks 1 to 7, on the ZONE and SOCKET pages. -/
def deckChecks (s : State) : List (Option FailedCheck) :=
  [ firstFailing 1 .zone all16 (fun z => (s.zoneType z).isSome),
    firstFailing 2 .zone all16 (fun z => s.zoneType z != some .unused || s.zonePage[z].neighbours == 0),
    firstFailing 3 .zone all16 (fun z => !s.adjacent z z),
    firstFailing 4 .zone all16 (fun z => all16.all (fun y => !s.adjacent z y || s.adjacent y z)),
    firstFailing 5 .socket all16 (fun i => s.zoneType s.socketPage[i].zone == some .site),
    firstFailing 6 .zone all16 (fun z => s.zoneType z != some .site || limitIn 1 4 (socketsInZone s z)),
    firstFailing 7 .zone classEntries (fun c => classHasBin s c.val) ]

/-- The checks 8 to 10, on the HEAD page. -/
def headChecks (s : State) : List (Option FailedCheck) :=
  [ firstFailing 8 .head [0] (fun _ => allHeads.any (fun h => s.headPage[h].present)),
    firstFailing 9 .head headEntries (fun e => !(headEntryAt s e).present || (headEntryAt s e).reach != 0),
    firstFailing 10 .head headEntries (fun e => !(headEntryAt s e).present ||
      all16.all (fun z => !hasBit (headEntryAt s e).reach z.val || s.zoneType z != some .unused)) ]

/-- The checks 11 to 17, on the LIMITS page. -/
def limitChecks (m : Limits) : List (Option FailedCheck) :=
  [ firstFailing 11 .limits [0] (fun _ => limitIn 1000 65535 m.divisor.toNat),
    firstFailing 12 .limits [1] (fun _ => limitIn 1 15 m.debounce.toNat),
    firstFailing 13 .limits [2] (fun _ => limitIn 1 255 m.seatWindow.toNat),
    firstFailing 14 .limits [3] (fun _ => limitIn 1 255 m.disturb.toNat),
    firstFailing 15 .limits [4] (fun _ => limitIn 1 15 m.recover.toNat),
    firstFailing 16 .limits [6] (fun _ => limitIn 1 3 m.retest.toNat),
    firstFailing 17 .limits [6] (fun _ => limitIn 0 7 m.overflowClass.toNat) ]

/-- The first check that fails, at its first failing entry; none where every check passes (R30). -/
def profileFailure (s : State) : Option FailedCheck :=
  (deckChecks s ++ headChecks s ++ limitChecks s.limits).findSome? id

/-! ### MODE RUN and MODE SETUP -/

/-- The state a socket starts RUN in (R31). -/
def startPhase (enabled present : Bool) : Phase :=
  match enabled, present with
  | false, _ => .disabled
  | true, false => .empty
  | true, true => .fault .stray none

/-- Socket i as it is set up at entry to RUN (R31). -/
def startSocket (s : State) (i : SocketIx) : Socket :=
  { phase := startPhase s.socketPage[i].enabled (seated s i)
    reservation := none
    sensor := .quiet
    lastResult := s.sockets[i].lastResult }

/-- STRAY is captured for the sockets found occupied, in ascending order (R31). -/
def captureStrays (l : List SocketIx) (s : State) : State :=
  l.foldl (fun t i =>
    captureFault { kind := .stray, head := none, socket := some i, slot := none, detail := 0 } t) s

/-- The sockets that entry to RUN sets to FAULT, in ascending order. -/
def occupiedAtStart (s : State) : List SocketIx := all16.filter (fun i => s.socketPage[i].enabled && seated s i)

/-- Entry to RUN (R21, R27, R31). -/
def enterRun (s : State) : State :=
  captureStrays (occupiedAtStart s)
    { s with
      mode := .run
      divisorInForce := s.limits.divisor
      debounceInForce := s.limits.debounce
      dividerCount := 0
      sockets := Vector.ofFn (startSocket s)
      profileResult := { code := .accepted, page := .zone, entry := 0, check := 0 } }

/-- The profile result word records a failed check (R27, R29). -/
def recordFailure (f : FailedCheck) (s : State) : State :=
  { s with profileResult := { code := .validation, page := f.page, entry := f.entry, check := f.check } }

/-- MODE RUN (R29). -/
def takeModeRun (s : State) : State × ControlResult :=
  match s.mode with
  | .run => (s, .mode)
  | .setup =>
    match profileFailure s with
    | some f => (recordFailure f s, .profile)
    | none => (enterRun s, .accepted)

/-- Some head's order at its fetch index is held or CLEARED, or some head is FAULTED (R32, check 2). -/
def workInFlight (s : State) : Bool :=
  allHeads.any (fun h => (s.orderAt h).state.held || (s.orderAt h).state == .cleared || headState s h == .faulted)

/-- MODE SETUP (R32). -/
def takeModeSetup (s : State) : State × ControlResult :=
  match s.mode with
  | .setup => (s, .mode)
  | .run =>
    if workInFlight s then (s, .busy)
    else if unitsCarried s ≠ 0 then (s, .units)
    else (deckReset s, .accepted)

/-! ### The rows -/

/-- PROFILE_PAGE_WRITE (R22). -/
def execProfilePageWrite (w : Word) (s : State) : Host.Outcome State Fault Refusal :=
  .next (writePageWord w s)

/-- PROFILE_ADDRESS_WRITE (R23). -/
def execProfileAddressWrite (w : Word) (s : State) : Host.Outcome State Fault Refusal :=
  .next (writeAddressWord w s)

/-- PROFILE_DATA_WRITE (R24). -/
def execProfileDataWrite (w : Word) (s : State) : Host.Outcome State Fault Refusal :=
  .next (writeDataWord w s)

/-- PROFILE_DATA_READ (R25). -/
def execProfileDataRead (s : State) : Host.Outcome State Fault Refusal :=
  .next (readDataWord s)

/-- MODE_RUN (R29 to R31). -/
def execModeRun (body : BitVec 24) (s : State) : Host.Outcome State Fault Refusal :=
  .next (controlWrite (controlWord .modeRun body) takeModeRun s)

/-- MODE_SETUP (R32). -/
def execModeSetup (body : BitVec 24) (s : State) : Host.Outcome State Fault Refusal :=
  .next (controlWrite (controlWord .modeSetup body) takeModeSetup s)

end Sys2Proof.Machine
end

