-- ==== Sys2Proof/Machine/Reports.lean ====
section
/-! DEFINITION. The Report Unit: acceptance and report errors (R84, R85), the effects of a completed leg (R88 to R94),
the end of an order (R95 to R97), leg failure (R98), and the rows LEG_DONE, LEG_FAILED and MALFORMED_REPORT. -/

namespace Sys2Proof.Machine

/-- A report that fails acceptance: counted, captured, and the cause REPORT given unless the head is OFFLINE (R85). -/
def reportError (h : HeadIx) (k : SlotIx) (s : State) : State :=
  giveCauseOnline .report h
    (captureFault { kind := .reportError, head := some h, socket := none, slot := some k, detail := 0 }
      (countReportError h s))

/-- The report of a leg that is not malformed is accepted (R84). -/
def reportAccepted (s : State) (h : HeadIx) (w : Word) : Bool :=
  headState s h == .moving && reportSlot w == s.fetchIndex[h] && reportLeg w == (s.orderAt h).completed

/-! ### Effects of a completed leg (R89 to R93) -/

/-- The filtered grip level of nozzle n of head h is ON. -/
def gripOn (s : State) (h : HeadIx) (n : NozzleId) : Bool := s.level (.grip h n)

/-- A tag leaves the pending set (R131). -/
def unpendTag (t : Tag) (s : State) : State := { s with pendingTags := s.pendingTags.filter (· != t) }

/-- A unit is created on nozzle n of head h, and PICKED counts (R126). -/
def createUnit (h : HeadIx) (n : NozzleId) (t : Tag) (s : State) : State :=
  { setContent h n (.holding (newUnit t)) s with picked := s.picked + 1 }

/-- A PICK in an INPUT zone (R89, R93). A nozzle that holds a unit takes no second one (log 11). -/
def pickInput (h : HeadIx) (n : NozzleId) (l : Leg) (s : State) : State × Option AbortCode :=
  let s1 := unpendTag l.tag s
  match (s.nozzle h n).content, gripOn s h n with
  | .suspect _, _ => (s1, some .mispick)
  | _, false => (s1, some .mispick)
  | .empty, true => (createUnit h n l.tag s1, none)
  | .holding _, true => (s1, none)

/-- A PICK in a SITE zone at socket i (R90, R93). A unit moves only from a socket that carries one to an EMPTY nozzle
(log 11). -/
def pickSite (h : HeadIx) (n : NozzleId) (i : SocketIx) (s : State) : State × Option AbortCode :=
  match (s.nozzle h n).content, gripOn s h n with
  | .suspect _, _ => (pickMissed i s, some .mispick)
  | _, false => (pickMissed i s, some .mispick)
  | .empty, true =>
    match s.sockets[i].phase.unit with
    | some u => (pickTaken i h (setContent h n (.holding u) s), none)
    | none => (s, none)
  | .holding _, true => (s, none)

/-- A unit as a place into socket i leaves it (R91, R127). -/
def UnitRec.placedIn (u : UnitRec) (i : SocketIx) : UnitRec :=
  { u with insertions := u.insertions + 1, lastSocket := some i, result := none }

/-- The socket is still VACATING at the report. -/
def Phase.isVacating : Phase → Bool
  | .vacating _ _ => true
  | _ => false

/-- The socket is in FAULT. -/
def Phase.isFault : Phase → Bool
  | .fault _ _ => true
  | _ => false

/-- The nozzle is SUSPECT. -/
def NozzleContent.isSuspect : NozzleContent → Bool
  | .suspect _ => true
  | _ => false

/-- Case 4 of a PLACE in a SITE zone: the unit goes from the nozzle into the EMPTY socket (R91; log 11). -/
def placeUnit (h : HeadIx) (n : NozzleId) (i : SocketIx) (s : State) : State :=
  match (s.nozzle h n).content, s.sockets[i].phase with
  | .holding u, .empty => unitPlaced i h (u.placedIn i) (setContent h n .empty s)
  | _, _ => s

/-- A PLACE in a SITE zone at socket i, by the first case that applies (R91); a SUSPECT nozzle by R93. -/
def placeSite (h : HeadIx) (n : NozzleId) (i : SocketIx) (s : State) : State × Option AbortCode :=
  if (s.nozzle h n).content.isSuspect then (placeMissed i s, some .misplace)
  else if s.sockets[i].phase.isVacating then (placeMissed i s, some .stuck)
  else if s.sockets[i].phase.isFault then (s, some .misplace)
  else if gripOn s h n then (placeMissed i s, some .misplace)
  else (placeUnit h n i s, none)

/-- DELIVERED counts for a class (R129). -/
def countDelivery (c : ClassIx) (s : State) : State :=
  { s with delivered := s.delivered.set c (s.delivered[c] + 1) }

/-- The unit leaves the nozzle and the deck, and its class counts (R92, R129; log 11). -/
def deliverUnit (h : HeadIx) (n : NozzleId) (s : State) : State :=
  match (s.nozzle h n).content with
  | .holding u =>
    match u.result with
    | some (.cls c) => countDelivery c (setContent h n .empty s)
    | _ => s
  | _ => s

/-- A PLACE in a BIN zone (R92, R93). -/
def placeBin (h : HeadIx) (n : NozzleId) (s : State) : State × Option AbortCode :=
  if (s.nozzle h n).content.isSuspect then (s, some .misplace)
  else if gripOn s h n then (s, some .misplace)
  else (deliverUnit h n s, none)

/-- The effect of a completed leg, with ACTIVE resolved to nozzle p: the changed state, and the abort code it
completes with, if any (R88, step 1). -/
def legEffect (h : HeadIx) (p : NozzleId) (l : Leg) (s : State) : State × Option AbortCode :=
  let n := l.nozzle.resolve p
  match l.action, s.zoneType l.zone with
  | .pick, some .input => pickInput h n l s
  | .pick, some .site => pickSite h n l.socket s
  | .place, some .site => placeSite h n l.socket s
  | .place, some .bin => placeBin h n s
  | _, _ => (s, none)

/-! ### Reservations, tags, and the end of an order -/

/-- The reservations of head h's slot k are dropped, but at the sockets of keep (R94, R97). -/
def dropReservationsBut (h : HeadIx) (k : SlotIx) (keep : List SocketIx) (s : State) : State :=
  { s with sockets := Vector.ofFn (fun i =>
      if s.sockets[i].reservation = some (h, k) ∧ keep.contains i = false
      then { s.sockets[i] with reservation := none } else s.sockets[i]) }

/-- The tags of the input picks of some legs leave the pending set (R97, R98). -/
def unpendTags (l : List Tag) (s : State) : State :=
  { s with pendingTags := s.pendingTags.filter (fun t => !l.contains t) }

/-- Some PICK or PLACE leg names ACTIVE or OTHER (R95). -/
def usesPointer (legs : List Leg) : Bool :=
  legs.any (fun l => l.handles && (l.nozzle == .active || l.nozzle == .other))

/-- The pointer flips at a DONE order (R95, step 2). -/
def flipPointer (h : HeadIx) (legs : List Leg) (s : State) : State :=
  if usesPointer legs && s.headPage[h].twoNozzles then s.setPointer h s.pointers[h].other else s

/-- The order in slot k of head h takes a state. -/
def setOrderState (h : HeadIx) (k : SlotIx) (st : OrderState) (s : State) : State :=
  s.setOrder h k { s.order h k with state := st }

/-- The order in slot k of head h has so many legs completed. -/
def setCompleted (h : HeadIx) (k : SlotIx) (n : Nat) (s : State) : State :=
  s.setOrder h k { s.order h k with completed := n }

/-- The order ends as DONE with last leg l (R95). -/
def orderDone (h : HeadIx) (k : SlotIx) (legs : List Leg) (l : Leg) (s : State) : State :=
  advanceFetch h (setOrderState h k .done (flipPointer h legs (releaseTo h l.zone [] s)))

/-- The cause an abort code gives (R97, step 3); LEG FAIL gives none. -/
def abortCause : AbortCode → Option Cause
  | .mispick => some .mispick
  | .misplace => some .misplace
  | .stuck => some .misplace
  | .legFail => none

/-- The kind of fault an abort code is captured as (R97, R98). -/
def abortKind : AbortCode → FaultKind
  | .mispick => .mispick
  | .misplace => .misplace
  | .stuck => .stuck
  | .legFail => .legFail

/-- The cause of an abort code is given to head h. -/
def giveAbortCause (c : AbortCode) (h : HeadIx) (s : State) : State :=
  match abortCause c with
  | some k => giveCause k h s
  | none => s

/-- The order ends as ABORTED at the report of leg l, with the legs after it (R97). -/
def orderAborted (h : HeadIx) (k : SlotIx) (c : AbortCode) (l : Leg) (after : List Leg) (s : State) : State :=
  let s1 := giveAbortCause c h (unpendTags (inputTags s after) (dropReservationsBut h k [] s))
  let s2 := advanceFetch h (setOrderState h k (.aborted c) (releaseTo h l.zone [] s1))
  captureFault { kind := abortKind c, head := some h, socket := legSocket s l, slot := some k, detail := 0 } s2

/-- The report of leg l of slot k of head h as done, the leg being number j and after the legs that follow (R88). -/
def completeLeg (h : HeadIx) (k : SlotIx) (legs : List Leg) (j : Nat) (l : Leg) (s : State) : State :=
  let after := legs.drop (j + 1)
  let e := legEffect h (activeNozzle s h (s.order h k)) l s
  let s1 := dropReservationsBut h k (namedSockets s after) (setCompleted h k (j + 1) e.1)
  let s2 := match e.2 with
    | some c => orderAborted h k c l after s1
    | none => if after.isEmpty then orderDone h k legs l s1 else releaseTo h l.zone (after.map Leg.zone) s1
  compareLines (linesOf s2 h legs) s2

/-- A report with OUTCOME LEG DONE (R84, R85, R88). -/
def takeLegDone (h : HeadIx) (w : Word) (s : State) : State :=
  let k := s.fetchIndex[h]
  let o := s.order h k
  match reportAccepted s h w, o.chain[o.completed]? with
  | true, some l => completeLeg h k o.chain o.completed l s
  | _, _ => reportError h (reportSlot w) s

/-! ### Leg failure (R98) -/

/-- The sockets that head h's slot k reserves. -/
def reservedSockets (s : State) (h : HeadIx) (k : SlotIx) : List SocketIx :=
  all16.filter (fun i => s.sockets[i].reservation == some (h, k))

/-- The sockets of a list become FAULT with reason LEG FAIL and lose their reservation (R117). -/
def legFailSockets (l : List SocketIx) (s : State) : State := l.foldl (fun t i => legFailSocket i t) s

/-- A nozzle's content made SUSPECT, keeping any unit (R98). -/
def NozzleContent.suspected (c : NozzleContent) : NozzleContent := .suspect c.unit

/-- Nozzle n of head h becomes SUSPECT, keeping any unit. -/
def suspectNozzle (h : HeadIx) (n : NozzleId) (s : State) : State :=
  setContent h n (s.nozzle h n).content.suspected s

/-- The nozzles of head h that the PICK and PLACE legs of a list name become SUSPECT (R98). -/
def suspectNozzles (h : HeadIx) (p : NozzleId) (legs : List Leg) (s : State) : State :=
  (legs.filterMap (legNozzle p)).foldl (fun t n => suspectNozzle h n t) s

/-- Head h becomes FAULTED (R98, R155). -/
def faultHead (h : HeadIx) (s : State) : State := s.setHead h { s.heads[h] with faulted := true }

/-- The report of leg l as failed, rest being that leg and those after it (R98). -/
def failLeg (h : HeadIx) (k : SlotIx) (legs rest : List Leg) (l : Leg) (code : BitVec 8) (s : State) : State :=
  let s1 := suspectNozzles h (activeNozzle s h (s.order h k)) rest (legFailSockets (reservedSockets s h k) s)
  let s2 := setOrderState h k (.aborted .legFail) (unpendTags (inputTags s rest) s1)
  let s3 := advanceFetch h (faultHead h s2)
  let s4 := captureFault
    { kind := .legFail, head := some h, socket := legSocket s l, slot := some k, detail := code } s3
  compareLines (linesOf s4 h legs) s4

/-- A report with OUTCOME LEG FAILED (R84, R85, R98). -/
def takeLegFailed (h : HeadIx) (w : Word) (s : State) : State :=
  let k := s.fetchIndex[h]
  let o := s.order h k
  match reportAccepted s h w, o.chain[o.completed]? with
  | true, some l => failLeg h k o.chain (o.chain.drop o.completed) l (reportDriveCode w) s
  | _, _ => reportError h (reportSlot w) s

/-- A drive's write of its own report word: it reaches memory, and is taken by its OUTCOME (R7, R83 to R85). -/
def writeReport (h : HeadIx) (w : Word) (s : State) : State :=
  let s1 := passWrite (.drive h) (reportAddr h) w s
  match reportOutcome w with
  | .legDone => takeLegDone h w s1
  | .legFailed => takeLegFailed h w s1
  | .malformed => reportError h (reportSlot w) s1

/-! ### The rows -/

/-- LEG_DONE (R88). -/
def execLegDone (h : HeadIx) (body : BitVec 30) (s : State) : Host.Outcome State Fault Refusal :=
  .next (writeReport h (doneReport body) s)

/-- LEG_FAILED (R98). -/
def execLegFailed (h : HeadIx) (body : BitVec 30) (s : State) : Host.Outcome State Fault Refusal :=
  .next (writeReport h (failedReport body) s)

/-- MALFORMED_REPORT (R85). A report whose OUTCOME is not malformed is taken by its OUTCOME (log 9). -/
def execMalformedReport (h : HeadIx) (w : Word) (s : State) : Host.Outcome State Fault Refusal :=
  .next (writeReport h w s)

end Sys2Proof.Machine
end

