-- ==== Sys2Proof/Machine/Rings.lean ====
section
/-! DEFINITION. The Ring Shadow: leg writes (R41 to R43), posts with their sequence check (R47) and static checks (R48
to R50), withdraws and retires (R52 to R54), and the rows LEG_WRITE, POST, WITHDRAW, RETIRE and
HEADER_WRITE_SUPPRESSED. -/

namespace Sys2Proof.Machine

/-! ### Leg writes -/

/-- A reopened record: FILLING with nothing captured and every other field cleared (R42). -/
def Order.reopened : Order := { Order.freed with state := .filling }

/-- Leg j of record o is captured, and the slot is FILLING; its other fields stand as they are (R41). -/
def Order.capturing (o : Order) (j : Fin 7) (l : Leg) : Order := { o with state := .filling, legs := o.legs.set j (some l) }

/-- A controller write of a leg word (R41 to R43). -/
def writeLeg (h : HeadIx) (k : SlotIx) (j : Fin 7) (w : Word) (s : State) : State :=
  let o := s.order h k
  if o.state.live then controllerProtect h (some k) s
  else
    let base := if o.state.finished then Order.reopened else o
    (passWrite .controller (legAddr h k j) w s).setOrder h k (base.capturing j (legOfWord w))

/-! ### The static checks (R49) -/

/-- Check 2: the leg's action is allowed in its zone. -/
def actionAllowed (s : State) (l : Leg) : Bool :=
  match l.action, s.zoneType l.zone with
  | .travel, some .unused => false
  | .travel, _ => true
  | .pick, some .input => true
  | .pick, some .site => true
  | .place, some .site => true
  | .place, some .bin => true
  | _, _ => false

/-- Check 3: the socket of a PICK or PLACE in a SITE zone lies in the leg's zone. -/
def socketLiesInZone (s : State) (l : Leg) : Bool :=
  match legSocket s l with
  | some i => s.socketPage[i].zone == l.zone
  | none => true

/-- Check 4: a one-nozzle head's PICK or PLACE names neither B nor OTHER. -/
def nozzleFitted (e : HeadEntry) (l : Leg) : Bool :=
  !(l.handles && !e.twoNozzles && (l.nozzle == .b || l.nozzle == .other))

/-- Check 5 over the whole chain: an input pick's TAG is neither 0 nor that of an earlier input pick. -/
def tagsFit (s : State) : List Tag → List Leg → Bool
  | _, [] => true
  | seen, l :: rest =>
    if inputPick s l then (l.tag != 0 && !seen.contains l.tag) && tagsFit s (l.tag :: seen) rest
    else tagsFit s seen rest

/-- Check 7 over the whole chain: each later leg's zone is that of the leg before it or adjacent to it. -/
def pathConnected (s : State) : List Leg → Bool
  | l :: m :: rest => (m.zone == l.zone || s.adjacent l.zone m.zone) && pathConnected s (m :: rest)
  | _ => true

/-- The static checks of a post to the ring of present head h: the reason of the first that fails (R49). -/
def staticFailure (s : State) (h : HeadIx) (o : Order) : Option Reason :=
  match o.chain? with
  | none => some .malformed
  | some legs =>
    if !(legs.all (actionAllowed s) && legs.all (socketLiesInZone s) && legs.all (nozzleFitted s.headPage[h]) &&
        tagsFit s [] legs) then some .malformed
    else if !legs.all (fun l => s.reaches h l.zone) then some .reach
    else if !pathConnected s legs then some .path
    else none

/-- What a post that passed the sequence check comes to (R48, R49): an absent head reaches no zone. -/
def postFailure (s : State) (h : HeadIx) (o : Order) : Option Reason :=
  if s.headPage[h].present then staticFailure s h o else some .reach

/-! ### Posts -/

/-- The record as a post takes it, before the checks (R46). -/
def Order.offered (o : Order) (w : Word) : Order :=
  { o with
    seq := some (headerSeq w)
    nowait := some (headerNowait w)
    completed := 0
    resolved := none
    blocker := none
    skipGiven := false }

/-- A sequence mismatch is counted, flagged and captured (R47). -/
def sequenceError (h : HeadIx) (k : SlotIx) (s : State) : State :=
  let s1 := countSequenceError h s
  captureFault { kind := .sequence, head := some h, socket := none, slot := some k, detail := 0 }
    (s1.setCounters h { s1.counters[h] with live := true, sticky := true })

/-- The state a post leaves the order in (R51). -/
def postedState : Option Reason → OrderState
  | none => .posted
  | some r => .refused r

/-- A post: the header reaches memory, the sequence check, the static checks (R46 to R51). -/
def postOrder (h : HeadIx) (k : SlotIx) (w : Word) (s : State) : State :=
  let o := (s.order h k).offered w
  let s1 := passWrite .controller (headerAddr h k) w s
  let s2 := s1.setExpectedSeq h (headerSeq w + 1)
  if headerSeq w = s.expectedSeq[h] then
    (s2.setCounters h { s.counters[h] with live := false }).setOrder h k
      { o with state := postedState (postFailure s h o) }
  else (sequenceError h k s2).setOrder h k { o with state := .refused .sequence }

/-! ### Withdraw and retire -/

/-- A withdraw of a POSTED or held order; the header reaches memory (R52). -/
def withdrawOrder (h : HeadIx) (k : SlotIx) (w : Word) (s : State) : State :=
  let s1 := passWrite .controller (headerAddr h k) w s
  refuseOrder h k .withdrawn false (if (s.order h k).state.held then stopHolding h s1 else s1)

/-- A retire of a finished slot; the header reaches memory (R54). -/
def retireOrder (h : HeadIx) (k : SlotIx) (w : Word) (s : State) : State :=
  (passWrite .controller (headerAddr h k) w s).setOrder h k Order.freed

/-- A controller header write in RUN with POST set (R45, R46). -/
def headerWithPost (h : HeadIx) (k : SlotIx) (w : Word) (s : State) : State :=
  if (s.order h k).state.live then controllerProtect h (some k) s else postOrder h k w s

/-- A controller header write in RUN with POST clear (R52 to R54). -/
def headerWithoutPost (h : HeadIx) (k : SlotIx) (w : Word) (s : State) : State :=
  match (s.order h k).state with
  | .cleared => controllerProtect h (some k) s
  | .posted | .socketWait | .zoneWait => withdrawOrder h k w s
  | .done | .refused _ | .aborted _ => retireOrder h k w s
  | .free | .filling => passWrite .controller (headerAddr h k) w s

/-- A controller header write (R44 to R54). -/
def writeHeader (h : HeadIx) (k : SlotIx) (w : Word) (s : State) : State :=
  match s.mode with
  | .setup => passWrite .controller (headerAddr h k) w s
  | .run => if headerPost w then headerWithPost h k w s else headerWithoutPost h k w s

/-! ### The rows -/

/-- LEG_WRITE (R41 to R43). -/
def execLegWrite (h : HeadIx) (k : SlotIx) (j : Fin 7) (w : Word) (s : State) : Host.Outcome State Fault Refusal :=
  .next (writeLeg h k j w s)

/-- POST (R46). -/
def execPost (h : HeadIx) (k : SlotIx) (body : BitVec 31) (s : State) : Host.Outcome State Fault Refusal :=
  .next (writeHeader h k (postHeader body) s)

/-- WITHDRAW (R52). -/
def execWithdraw (h : HeadIx) (k : SlotIx) (body : BitVec 31) (s : State) : Host.Outcome State Fault Refusal :=
  .next (writeHeader h k (clearHeader body) s)

/-- RETIRE (R54). -/
def execRetire (h : HeadIx) (k : SlotIx) (body : BitVec 31) (s : State) : Host.Outcome State Fault Refusal :=
  .next (writeHeader h k (clearHeader body) s)

/-- HEADER_WRITE_SUPPRESSED (R45, R53). -/
def execHeaderWriteSuppressed (h : HeadIx) (k : SlotIx) (w : Word) (s : State) : Host.Outcome State Fault Refusal :=
  .next (writeHeader h k w s)

end Sys2Proof.Machine
end

