-- ==== Sys2Proof/Machine/PortBlock.lean ====
section
/-! DEFINITION. The Port Block: the dispatch of control words (R11, R12), every write of either port by the map of the
command area (R4 to R10), every read of either port (R5), and the rows BAD_COMMAND, DRIVE_PROTECT,
CONTROLLER_REPORT_WRITE and PASSED_WRITE. -/

namespace Sys2Proof.Machine

/-! ### Control words -/

/-- The owning block's answer to a command (R11). -/
def commandBlock (c : Command) (w : Word) (s : State) : State × ControlResult :=
  match c with
  | .modeRun => takeModeRun s
  | .modeSetup => takeModeSetup s
  | .deckReset => takeDeckReset s
  | .headOnline => takeHeadOnline w s
  | .headOffline => takeHeadOffline w s
  | .headRecover => takeHeadRecover w s
  | .mask => takeMask w s
  | .maskClear => takeMaskClear w s
  | .drain => takeDrain s
  | .undrain => takeUndrain s
  | .clearTallies => takeClearTallies s
  | .clearCapture => takeClearCapture s
  | .clearCounters => takeClearCounters s

/-- The answer to a control word: BAD COMMAND where it names no command, and no block receives it (R12). -/
def controlAnswer (w : Word) (s : State) : State × ControlResult :=
  match controlCommand w with
  | some c => commandBlock c w s
  | none => (s, .badCommand)

/-- A controller write of any control word (R11, R12). -/
def writeControl (w : Word) (s : State) : State := controlWrite w (controlAnswer w) s

/-! ### Every write (R4) -/

/-- A controller write, by the map (R4). -/
def controllerWrite (a : Addr) (w : Word) (s : State) : State :=
  match regionOf a with
  | .control => writeControl w s
  | .profilePage => writePageWord w s
  | .profileAddress => writeAddressWord w s
  | .profileData => writeDataWord w s
  | .socketCommand i => socketCommandWrite i w s
  | .report h => controllerProtect h none s
  | .header h k => writeHeader h k w s
  | .leg h k j => writeLeg h k j w s
  | .profileResult | .status _ | .socketState _ | .socketUnit _ | .socketNote _ | .disposition _ _ | .unassigned
  | .plain => passWrite .controller a.toNat w s

/-- A drive write with head number h, by the map (R4, R7 to R9). -/
def driveWrite (h : HeadIx) (a : Addr) (w : Word) (s : State) : State :=
  if driveWriteSuppressed h (regionOf a) then driveProtect h s
  else match regionOf a with
    | .report _ => writeReport h w s
    | _ => passWrite (.drive h) a.toNat w s

/-- A write on either port (R3, R4). -/
def busWrite (src : Source) (a : Addr) (w : Word) (s : State) : State :=
  match src with
  | .controller => controllerWrite a w s
  | .drive h => driveWrite h a w s

/-! ### Every read (R4, R5) -/

/-- The word a controller read returns, where the read changes nothing (R5). -/
def controllerView (s : State) (a : Addr) : Word :=
  match regionOf a with
  | .control => controlResultWord s
  | .profileResult => profileResultWord s
  | .status n => s.snapshot[n]
  | .socketState i => socketStateWord s i
  | .socketUnit i => socketUnitWord s i
  | .disposition h k => dispositionWord (s.order h k)
  | _ => dcmRead s.dcm a.toNat

/-- The word a drive read returns, where it is no fetch of the drive's own ring (R5, R8). -/
def driveView (s : State) (a : Addr) : Word :=
  match regionOf a with
  | .status n => s.snapshot[n]
  | .socketState i => socketStateWord s i
  | .socketUnit i => socketUnitWord s i
  | .disposition h k => dispositionWord (s.order h k)
  | .header _ _ => substNone
  | _ => dcmRead s.dcm a.toNat

/-- A controller read (R5). -/
def controllerRead (a : Addr) (s : State) : State :=
  match regionOf a with
  | .profileData => readDataWord s
  | .status 0 => readStatusWord0 s
  | _ => returnWord .controller (controllerView s a) (s.grant .controller)

/-- A drive read with head number h (R5, R8). -/
def driveRead (h : HeadIx) (a : Addr) (s : State) : State :=
  match regionOf a with
  | .header g k => if g = h then fetchHeader h k s else returnWord (.drive h) substNone (s.grant (.drive h))
  | _ => returnWord (.drive h) (driveView s a) (s.grant (.drive h))

/-- A read on either port: the state it leaves, with the word returned. The reads that no row of the table names are
this operation and not commands (log 8). -/
def busRead (src : Source) (a : Addr) (s : State) : State :=
  match src with
  | .controller => controllerRead a s
  | .drive h => driveRead h a s

/-! ### The rows -/

/-- BAD_COMMAND (R12). A word that does name a command has that command's effect (log 9). -/
def execBadCommand (w : Word) (s : State) : Host.Outcome State Fault Refusal :=
  .next (writeControl w s)

/-- DRIVE_PROTECT (R9). A write that the map does not suppress has the effect the map gives it (log 9). -/
def execDriveProtect (h : HeadIx) (a : Addr) (w : Word) (s : State) : Host.Outcome State Fault Refusal :=
  .next (driveWrite h a w s)

/-- CONTROLLER_REPORT_WRITE (R10): always suppressed, so the written word goes nowhere. -/
def execControllerReportWrite (h : HeadIx) (_w : Word) (s : State) : Host.Outcome State Fault Refusal :=
  .next (controllerProtect h none s)

/-- PASSED_WRITE (R4, R44). A write to a word with a behaviour of its own has that behaviour (log 9). -/
def execPassedWrite (src : Source) (a : Addr) (w : Word) (s : State) : Host.Outcome State Fault Refusal :=
  .next (busWrite src a w s)

end Sys2Proof.Machine
end

