-- ==== Sys2Proof/Machine/Dispatch.lean ====
section
/-! DEFINITION. One arm per command: the meaning of each row of the table. -/

namespace Sys2Proof.Machine

/-- The effect of a command on everything but the queue. -/
def exec (i : Instr) (s : State) : Host.Outcome State Fault Refusal :=
  match i with
  | .powerOnReset => Sys2Proof.Machine.execPowerOnReset s
  | .tick presence grip => Sys2Proof.Machine.execTick presence grip s
  | .filteredLevelChange l => Sys2Proof.Machine.execFilteredLevelChange l s
  | .holdTimerExpiry h => Sys2Proof.Machine.execHoldTimerExpiry h s
  | .seatWindowExpiry n => Sys2Proof.Machine.execSeatWindowExpiry n s
  | .vacateWindowExpiry n => Sys2Proof.Machine.execVacateWindowExpiry n s
  | .disturbanceTimerExpiry l => Sys2Proof.Machine.execDisturbanceTimerExpiry l s
  | .recoverCountdownExpiry l => Sys2Proof.Machine.execRecoverCountdownExpiry l s
  | .modeRun body => Sys2Proof.Machine.execModeRun body s
  | .modeSetup body => Sys2Proof.Machine.execModeSetup body s
  | .deckReset body => Sys2Proof.Machine.execDeckReset body s
  | .headOnline body => Sys2Proof.Machine.execHeadOnline body s
  | .headOffline body => Sys2Proof.Machine.execHeadOffline body s
  | .headRecover body => Sys2Proof.Machine.execHeadRecover body s
  | .mask body => Sys2Proof.Machine.execMask body s
  | .maskClear body => Sys2Proof.Machine.execMaskClear body s
  | .drain body => Sys2Proof.Machine.execDrain body s
  | .undrain body => Sys2Proof.Machine.execUndrain body s
  | .clearTallies body => Sys2Proof.Machine.execClearTallies body s
  | .clearCapture body => Sys2Proof.Machine.execClearCapture body s
  | .clearCounters body => Sys2Proof.Machine.execClearCounters body s
  | .badCommand w => Sys2Proof.Machine.execBadCommand w s
  | .profilePageWrite w => Sys2Proof.Machine.execProfilePageWrite w s
  | .profileAddressWrite w => Sys2Proof.Machine.execProfileAddressWrite w s
  | .profileDataWrite w => Sys2Proof.Machine.execProfileDataWrite w s
  | .profileDataRead => Sys2Proof.Machine.execProfileDataRead s
  | .statusWord0Read => Sys2Proof.Machine.execStatusWord0Read s
  | .enable n body => Sys2Proof.Machine.execEnable n body s
  | .disable n body => Sys2Proof.Machine.execDisable n body s
  | .start n body => Sys2Proof.Machine.execStart n body s
  | .result n body => Sys2Proof.Machine.execResult n body s
  | .abort n body => Sys2Proof.Machine.execAbort n body s
  | .clearFault n body => Sys2Proof.Machine.execClearFault n body s
  | .socketBadCommand n w => Sys2Proof.Machine.execSocketBadCommand n w s
  | .legWrite h k j w => Sys2Proof.Machine.execLegWrite h k j w s
  | .post h k body => Sys2Proof.Machine.execPost h k body s
  | .withdraw h k body => Sys2Proof.Machine.execWithdraw h k body s
  | .retire h k body => Sys2Proof.Machine.execRetire h k body s
  | .fetch h k => Sys2Proof.Machine.execFetch h k s
  | .legDone h body => Sys2Proof.Machine.execLegDone h body s
  | .legFailed h body => Sys2Proof.Machine.execLegFailed h body s
  | .driveProtect h a w => Sys2Proof.Machine.execDriveProtect h a w s
  | .controllerReportWrite h w => Sys2Proof.Machine.execControllerReportWrite h w s
  | .passedWrite src a w => Sys2Proof.Machine.execPassedWrite src a w s
  | .headerWriteSuppressed h k w => Sys2Proof.Machine.execHeaderWriteSuppressed h k w s
  | .malformedReport h w => Sys2Proof.Machine.execMalformedReport h w s

end Sys2Proof.Machine
end

