-- ==== Sys2Proof/Safety.lean ====
section
/-! DEFINITION. What claims about the CV416 are stated in: the word a command stores to memory, where each unit is,
the wait-for relation as R73 words it, and the conditions that the spec says hold at every moment. A safe run is one
in which these conditions hold in every state; nothing stops the part, so no run ends early (log 13). -/

namespace Sys2Proof.Machine

/-! ### What reaches memory (R3, R6, R9, R10) -/

/-- A controller header write reaches memory: always in SETUP (R44); in RUN not with POST set on a live slot, and not
with POST clear on a CLEARED one (R45, R53). -/
def headerReaches (s : State) (h : HeadIx) (k : SlotIx) (w : Word) : Bool :=
  match s.mode with
  | .setup => true
  | .run => if headerPost w then !(s.order h k).state.live else (s.order h k).state != .cleared

/-- The address and word that a controller header write stores. -/
def headerStore (s : State) (h : HeadIx) (k : SlotIx) (w : Word) : Option (Nat × Word) :=
  if headerReaches s h k w then some (headerAddr h k, w) else none

/-- The address and word that a controller leg write stores (R41 to R43). -/
def legStore (s : State) (h : HeadIx) (k : SlotIx) (j : Fin 7) (w : Word) : Option (Nat × Word) :=
  if (s.order h k).state.live then none else some (legAddr h k j, w)

/-- The address and word that a write on either port stores, by the map (R4). -/
def writeStore (s : State) (src : Source) (a : Addr) (w : Word) : Option (Nat × Word) :=
  match src with
  | .drive h => if driveWriteSuppressed h (regionOf a) then none else some (a.toNat, w)
  | .controller =>
    match regionOf a with
    | .report _ => none
    | .header h k => headerStore s h k w
    | .leg h k j => legStore s h k j w
    | _ => some (a.toNat, w)

/-- The address and word that a command stores to the Deck Command Memory, if it stores one. -/
def storedWord (c : Instr) (s : State) : Option (Nat × Word) :=
  match c with
  | .modeRun b => some (controlAddr, controlWord .modeRun b)
  | .modeSetup b => some (controlAddr, controlWord .modeSetup b)
  | .deckReset b => some (controlAddr, controlWord .deckReset b)
  | .headOnline b => some (controlAddr, controlWord .headOnline b)
  | .headOffline b => some (controlAddr, controlWord .headOffline b)
  | .headRecover b => some (controlAddr, controlWord .headRecover b)
  | .mask b => some (controlAddr, controlWord .mask b)
  | .maskClear b => some (controlAddr, controlWord .maskClear b)
  | .drain b => some (controlAddr, controlWord .drain b)
  | .undrain b => some (controlAddr, controlWord .undrain b)
  | .clearTallies b => some (controlAddr, controlWord .clearTallies b)
  | .clearCapture b => some (controlAddr, controlWord .clearCapture b)
  | .clearCounters b => some (controlAddr, controlWord .clearCounters b)
  | .badCommand w => some (controlAddr, w)
  | .profilePageWrite w => some (profilePageAddr, w)
  | .profileAddressWrite w => some (profileAddressAddr, w)
  | .profileDataWrite w => some (profileDataAddr, w)
  | .enable i b => some (socketCommandAddr i, socketWord .enable b)
  | .disable i b => some (socketCommandAddr i, socketWord .disable b)
  | .start i b => some (socketCommandAddr i, socketWord .start b)
  | .result i b => some (socketCommandAddr i, socketWord .result b)
  | .abort i b => some (socketCommandAddr i, socketWord .abort b)
  | .clearFault i b => some (socketCommandAddr i, socketWord .clearFault b)
  | .socketBadCommand i w => some (socketCommandAddr i, w)
  | .legWrite h k j w => legStore s h k j w
  | .post h k b => headerStore s h k (postHeader b)
  | .withdraw h k b => headerStore s h k (clearHeader b)
  | .retire h k b => headerStore s h k (clearHeader b)
  | .headerWriteSuppressed h k w => headerStore s h k w
  | .legDone h b => some (reportAddr h, doneReport b)
  | .legFailed h b => some (reportAddr h, failedReport b)
  | .malformedReport h w => some (reportAddr h, w)
  | .driveProtect h a w => writeStore s (.drive h) a w
  | .passedWrite src a w => writeStore s src a w
  | .controllerReportWrite _ _ | .powerOnReset | .tick _ _ | .filteredLevelChange _ | .holdTimerExpiry _
  | .seatWindowExpiry _ | .vacateWindowExpiry _ | .disturbanceTimerExpiry _ | .recoverCountdownExpiry _
  | .profileDataRead | .statusWord0Read | .fetch _ _ => none

/-- The port of the access a command is; none for an event, an expiry or the reset input. -/
def portOf : Instr → Option Port
  | .powerOnReset | .tick _ _ | .filteredLevelChange _ | .holdTimerExpiry _ | .seatWindowExpiry _
  | .vacateWindowExpiry _ | .disturbanceTimerExpiry _ | .recoverCountdownExpiry _ => none
  | .fetch _ _ | .legDone _ _ | .legFailed _ _ | .malformedReport _ _ | .driveProtect _ _ _ => some .drive
  | .passedWrite src _ _ => some src.port
  | .modeRun _ | .modeSetup _ | .deckReset _ | .headOnline _ | .headOffline _ | .headRecover _ | .mask _
  | .maskClear _ | .drain _ | .undrain _ | .clearTallies _ | .clearCapture _ | .clearCounters _ | .badCommand _
  | .profilePageWrite _ | .profileAddressWrite _ | .profileDataWrite _ | .profileDataRead | .statusWord0Read
  | .enable _ _ | .disable _ _ | .start _ _ | .result _ _ | .abort _ _ | .clearFault _ _ | .socketBadCommand _ _
  | .legWrite _ _ _ _ | .post _ _ _ | .withdraw _ _ _ | .retire _ _ _ | .controllerReportWrite _ _
  | .headerWriteSuppressed _ _ _ => some .controller

/-! ### Answers that change nothing else -/

/-- The state after a controller write that reaches memory and changes nothing else (R3, R4). -/
def written (s : State) (a : Nat) (w : Word) : State :=
  { s with lastGrant := .controller, dcm := dcmWrite s.dcm a w }

/-- The state after control word w, in so far as it is written and its code and result are recorded (R11, R14). -/
def answered (s : State) (w : Word) (r : ControlResult) : State :=
  { written s controlAddr w with controlCode := w.extractLsb' 24 8, controlResult := r }

/-- The state after command word w of socket i, in so far as it is written and its result is recorded (R107). -/
def socketAnswered (s : State) (i : SocketIx) (w : Word) (r : SocketResult) : State :=
  { written s (socketCommandAddr i) w with sockets := s.sockets.set i { s.sockets[i] with lastResult := r } }

/-- The state after a drive read that returns w and changes nothing else (R5). -/
def returned (s : State) (w : Word) : State := { s with lastGrant := .drive, driveData := w }

/-- The count after one more, stopping at 255 (R175). -/
def oneMore (c : BitVec 8) : BitVec 8 := if c = 255 then 255 else c + 1

/-- The state after a suppressed controller write that names head h and, for a ring word, a slot (R10). -/
def controllerSuppressed (s : State) (h : HeadIx) (k : Option SlotIx) : State :=
  captureFault { kind := .protect, head := some h, socket := none, slot := k, detail := 0 }
    { s with lastGrant := .controller, controllerProtect := oneMore s.controllerProtect }

/-- The state after a suppressed write of the drive of head h (R9). -/
def driveSuppressed (s : State) (h : HeadIx) : State :=
  captureFault { kind := .protect, head := some h, socket := none, slot := none, detail := 0 }
    { s with
      lastGrant := .drive
      counters := s.counters.set h { s.counters[h] with protect := oneMore s.counters[h].protect } }

/-! ### Events due (log 3, log 4) -/

/-- The event stands due: its line's change, its timer or its window has run out and is not yet taken (R75, R118, R120,
R140, R144). -/
def EventDue (s : State) : TimedEvent → Prop
  | .level l => (s.filter l).changeDue = true
  | .hold h => s.holdTimers[h] = .running 0
  | .seat i => ∃ u h, s.sockets[i].phase = .seating u h 0
  | .vacate i => ∃ h, s.sockets[i].phase = .vacating h 0
  | .disturb l => watchedLevel s l ≠ none ∧ s.sensor l = .disturbed 0
  | .recover l => watchedLevel s l ≠ none ∧ s.sensor l = .recovering 0

/-- The command that takes the event, by its own row of the table. -/
def TimedEvent.command : TimedEvent → Instr
  | .level l => .filteredLevelChange l
  | .hold h => .holdTimerExpiry h
  | .seat i => .seatWindowExpiry i
  | .vacate i => .vacateWindowExpiry i
  | .disturb l => .disturbanceTimerExpiry l
  | .recover l => .recoverCountdownExpiry l

/-- From s, events that stand due are taken one after another, in some order, each as its own row takes it, until none
stands due in u; each taken advances the count of free draws. This is the model's choice (log 3, log 4). -/
inductive DueTaken : State → State → Prop where
  | none (s : State) : (∀ e, ¬ EventDue s e) → DueTaken s s
  | next (s t u : State) (e : TimedEvent) : EventDue s e →
      exec e.command { s with freeDraws := s.freeDraws + 1 } = .next t → DueTaken t u → DueTaken s u

/-! ### Substitute words (R58; 11.1) -/

/-- DWELL at slot k. -/
def dwellWord (k : SlotIx) : Word := 1#4 ++ BitVec.ofNat 4 k.val ++ 0#24

/-- SKIP at slot k with a reason. -/
def skipWord (k : SlotIx) (r : Reason) : Word := 2#4 ++ BitVec.ofNat 4 k.val ++ 0#20 ++ r.code

/-- HALT. -/
def haltWord : Word := 3#4 ++ 0#28

/-! ### The state after an order's fetch or its end, record by record -/

/-- Head h has left every wait list and its hold timer is stopped (R74). -/
def listsLeft (s : State) (h : HeadIx) : State :=
  { s with
    zones := s.zones.map (fun r => { r with waiters := r.waiters.filter (· ≠ h) })
    socketWaiters := s.socketWaiters.map (fun l => l.filter (· ≠ h))
    holdTimers := s.holdTimers.set h .stopped }

/-- The state after a fetch by head h at slot k, its fetch index, that refuses the order for a reason (R58, R63). -/
def skippedWith (s : State) (h : HeadIx) (k : SlotIx) (r : Reason) : State :=
  { (listsLeft (returned s (skipWord k r)) h).setOrder h k
      { s.order h k with state := .refused r, blocker := none, skipGiven := true } with
    fetchIndex := s.fetchIndex.set h (k + 1) }

/-- The state in which head h's order in slot k is held in state st and has joined the socket lists and zone lists of
some sockets and zones; a POSTED order's hold timer has started (R69 to R71, R75). -/
def heldWith (s : State) (h : HeadIx) (k : SlotIx) (st : OrderState) (is : List SocketIx) (zs : List ZoneIx) : State :=
  { s.setOrder h k { s.order h k with state := st } with
    lastGrant := .drive
    socketWaiters := Vector.ofFn (fun i : Fin 16 =>
      if i ∈ is ∧ h ∉ s.socketWaiters[i] then s.socketWaiters[i] ++ [h] else s.socketWaiters[i])
    zones := Vector.ofFn (fun z : Fin 16 =>
      if z ∈ zs ∧ s.zones[z].holder ≠ some h ∧ h ∉ s.zones[z].waiters
      then { s.zones[z] with waiters := s.zones[z].waiters ++ [h] } else s.zones[z])
    holdTimers :=
      if (s.order h k).state = .posted
      then s.holdTimers.set h (if s.limits.hold = 0 then .unlimited else .running (10 * s.limits.hold.toNat))
      else s.holdTimers }

/-! ### The checks of MODE RUN (R30) -/

/-- Entry e fails check n, as R30's table words it. -/
def CheckFails (s : State) (n : Nat) (e : Fin 16) : Prop :=
  match n with
  | 1 => 5 < s.zonePage[e].type.toNat
  | 2 => s.zonePage[e].type = 0 ∧ s.zonePage[e].neighbours ≠ 0
  | 3 => s.zonePage[e].neighbours.getLsbD e = true
  | 4 => ∃ y : Fin 16, s.zonePage[e].neighbours.getLsbD y = true ∧ s.zonePage[y].neighbours.getLsbD e = false
  | 5 => s.zonePage[s.socketPage[e].zone].type ≠ 4
  | 6 => s.zonePage[e].type = 4 ∧
      ¬ (1 ≤ (all16.filter (fun i => s.socketPage[i].zone = e)).length ∧
        (all16.filter (fun i => s.socketPage[i].zone = e)).length ≤ 4)
  | 7 => e.val < 8 ∧ ∀ z : Fin 16, s.zonePage[z].type = 5 → s.zonePage[z].classes.getLsbD e = false
  | 8 => e = 0 ∧ ∀ h : HeadIx, s.headPage[h].present = false
  | 9 => ∃ h : HeadIx, h.val = e.val ∧ s.headPage[h].present = true ∧ s.headPage[h].reach = 0
  | 10 => ∃ h : HeadIx, h.val = e.val ∧ s.headPage[h].present = true ∧
      ∃ z : Fin 16, s.headPage[h].reach.getLsbD z = true ∧ s.zonePage[z].type = 0
  | 11 => e = 0 ∧ s.limits.divisor.toNat < 1000
  | 12 => e = 1 ∧ s.limits.debounce = 0
  | 13 => e = 2 ∧ s.limits.seatWindow = 0
  | 14 => e = 3 ∧ s.limits.disturb = 0
  | 15 => e = 4 ∧ s.limits.recover = 0
  | 16 => e = 6 ∧ s.limits.retest = 0
  | 17 => e = 6 ∧ 7 < s.limits.overflowClass.toNat
  | _ => False

/-- The page a check reports (R30). -/
def checkPage (n : Nat) : Page :=
  if n = 5 then .socket else if n ≤ 7 then .zone else if n ≤ 10 then .head else .limits

/-- The bits of an entry's word that belong to fields (11.5). -/
def fieldMask (p : Page) (e : Nat) : Word :=
  match p, e with
  | .zone, _ => 0xE0FFFFFF
  | .socket, _ => 0x8000000F
  | .head, _ => 0xC03FFFFF
  | .limits, 0 => 0xFFFF
  | .limits, 1 => 0xF
  | .limits, 2 => 0xFF
  | .limits, 3 => 0xFF
  | .limits, 4 => 0xF
  | .limits, 5 => 0xFF
  | .limits, 6 => 0x1F3
  | .limits, 7 => 3
  | .limits, _ => 0

/-! ### The static checks (R37, R49) -/

/-- The legs form the chain of an order record: from leg word 1 on, MORE set on each but the last (R37). -/
def IsChain (o : Order) (legs : List Leg) : Prop :=
  legs ≠ [] ∧
    ∀ (j : Nat) (l : Leg), legs[j]? = some l → o.legs[j]? = some (some l) ∧ (l.more = true ↔ j + 1 < legs.length)

/-- Leg l, number j of the legs, fails one of the checks 2 to 5 of R49. -/
def LegMalformed (s : State) (h : HeadIx) (legs : List Leg) (j : Nat) (l : Leg) : Prop :=
  let ty := s.zonePage[l.zone].type
  l.action = .unnamed ∨
    (l.action = .pick ∧ ty ≠ 3 ∧ ty ≠ 4) ∨
    (l.action = .place ∧ ty ≠ 4 ∧ ty ≠ 5) ∨
    (l.action = .travel ∧ ty = 0) ∨
    ((l.action = .pick ∨ l.action = .place) ∧ ty = 4 ∧ s.socketPage[l.socket].zone ≠ l.zone) ∨
    ((l.action = .pick ∨ l.action = .place) ∧ s.headPage[h].twoNozzles = false ∧
      (l.nozzle = .b ∨ l.nozzle = .other)) ∨
    (l.action = .pick ∧ ty = 3 ∧
      (l.tag = 0 ∨ ∃ i m, i < j ∧ legs[i]? = some m ∧ m.action = .pick ∧ s.zonePage[m.zone].type = 3 ∧ m.tag = l.tag))

/-- The chain's checks 1 to 5 fail somewhere. -/
def ChainMalformed (s : State) (h : HeadIx) (legs : List Leg) : Prop := ∃ j l, legs[j]? = some l ∧ LegMalformed s h legs j l

/-- Some leg's zone is not in the head's reach (check 6). -/
def ChainUnreachable (s : State) (h : HeadIx) (legs : List Leg) : Prop :=
  ∃ l ∈ legs, s.headPage[h].reach.getLsbD l.zone = false

/-- Some leg's zone is neither that of the leg before it nor adjacent to it (check 7). -/
def ChainBroken (s : State) (legs : List Leg) : Prop :=
  ∃ j l m, legs[j]? = some l ∧ legs[j + 1]? = some m ∧ m.zone ≠ l.zone ∧
    s.zonePage[l.zone].neighbours.getLsbD m.zone = false

/-! ### Where units are (R125) -/

/-- What can carry a unit: a socket, or a nozzle of a head. -/
inductive Carrier where
  | socket (i : SocketIx)
  | nozzle (h : HeadIx) (n : NozzleId)
  deriving DecidableEq, Repr

/-- The unit a carrier carries. -/
def unitAt (s : State) : Carrier → Option UnitRec
  | .socket i => s.sockets[i].phase.unit
  | .nozzle h n => (s.nozzle h n).content.unit

/-- The 24 things that can carry a unit. -/
def allCarriers : List Carrier :=
  all16.map Carrier.socket ++ allHeads.flatMap (fun h => [Carrier.nozzle h .a, Carrier.nozzle h .b])

/-- The units that have left the deck by delivery, over all classes, modulo 2^32. -/
def deliveredSum (s : State) : BitVec 32 := allClasses.foldl (fun n c => n + s.delivered[c]) 0

/-! ### Orders -/

/-- Held or CLEARED (R62). -/
def OrderState.active (o : OrderState) : Bool := o.held || o == .cleared

/-- The legs of head h's order at its fetch index that are not completed; only a CLEARED order has any here. -/
def legsLeft (s : State) (h : HeadIx) : List Leg :=
  if (s.orderAt h).state = .cleared then (s.orderAt h).chain.drop (s.orderAt h).completed else []

/-! ### The wait-for relation (R73) -/

/-- In list l, head y stands before head x: at an earlier place, or x does not stand in the list (R69; log 10). -/
def StandsBefore (y x : HeadIx) (l : List HeadIx) : Prop := ∃ l₁ l₂, l = l₁ ++ y :: l₂ ∧ x ∉ l₁ ∧ x ≠ y

/-- Head x, in ZONE WAIT, waits on head y through zone z. -/
def WaitsAtZone (s : State) (x y : HeadIx) (z : ZoneIx) : Prop :=
  s.zones[z].holder ≠ some x ∧ (s.zones[z].holder = some y ∨ StandsBefore y x s.zones[z].waiters)

/-- Head x waits on head y through socket i. -/
def WaitsAtSocket (s : State) (x y : HeadIx) (i : SocketIx) : Prop :=
  (∃ k, s.sockets[i].reservation = some (y, k)) ∨ StandsBefore y x s.socketWaiters[i]

/-- Head x waits on head y (R73). -/
def WaitsOn (s : State) (x y : HeadIx) : Prop :=
  x ≠ y ∧ (s.orderAt x).state.held = true ∧
    ((∃ i ∈ namedSockets s (s.orderAt x).chain, WaitsAtSocket s x y i) ∨
      ((s.orderAt x).state = .zoneWait ∧ ∃ z ∈ neededZones s x (s.orderAt x).chain, WaitsAtZone s x y z))

/-- No circle of heads each waiting on the next (R73). -/
def NoWaitCycle (s : State) : Prop := ∀ x, ¬ Relation.TransGen (WaitsOn s) x x

/-! ### The search for the blocker (R76) -/

/-- Where the search for a blocker looks: at a socket or at a zone. -/
inductive SearchPlace where
  | socket (i : SocketIx)
  | zone (z : ZoneIx)
  deriving DecidableEq, Repr

/-- The places of the search for head x's held order, in order: for each leg its socket and then, in ZONE WAIT, its zone;
at the end, in ZONE WAIT, the resting zone (R76). -/
def searchPlaces (s : State) (x : HeadIx) : List SearchPlace :=
  let o := s.orderAt x
  let zones (l : List ZoneIx) : List SearchPlace := if o.state = .zoneWait then l.map .zone else []
  o.chain.flatMap (fun l => (legSocket s l).toList.map .socket ++ zones [l.zone]) ++ zones s.heads[x].resting.toList

/-- Head y is the first in list l that stands before head x. -/
def FirstBefore (y x : HeadIx) (l : List HeadIx) : Prop := y ≠ x ∧ l.head? = some y

/-- The search for head x finds head y at a place: the reservation's head or the holder, or else the first head that stands
before x in the list; at a zone that x holds it finds none (R76). -/
def FoundAt (s : State) (x y : HeadIx) : SearchPlace → Prop
  | .socket i => (y ≠ x ∧ ∃ k, s.sockets[i].reservation = some (y, k)) ∨
      ((∀ g k, s.sockets[i].reservation = some (g, k) → g = x) ∧ FirstBefore y x s.socketWaiters[i])
  | .zone z => s.zones[z].holder ≠ some x ∧
      (s.zones[z].holder = some y ∨ (s.zones[z].holder = none ∧ FirstBefore y x s.zones[z].waiters))

/-- Head y is found at some place of the search for head x and no head at an earlier one. -/
def FoundFirst (s : State) (x y : HeadIx) : Prop :=
  ∃ before p after, searchPlaces s x = before ++ p :: after ∧ FoundAt s x y p ∧
    ∀ q ∈ before, ∀ g, ¬ FoundAt s x g q

/-! ### Conditions that hold at every moment -/

/-- The memory stands in its canonical form (log 5). -/
def MemoryCanonical (s : State) : Prop := dcmWf s.dcm = true

/-- In SETUP every slot is FREE or FILLING, no zone has a holder, every socket is DISABLED and unreserved, and every
head is OFFLINE (R28, R44, R105, R142). -/
def SetupStill (s : State) : Prop :=
  s.mode = .setup →
    (∀ h k, (s.order h k).state = .free ∨ (s.order h k).state = .filling) ∧
    (∀ z : ZoneIx, s.zones[z].holder = none) ∧
    (∀ i : SocketIx, s.sockets[i].phase = .disabled ∧ s.sockets[i].reservation = none) ∧
    (∀ h : HeadIx, s.heads[h].online = false)

/-- A head has at most one held or CLEARED order, and that one stands at its fetch index (R62); an OFFLINE or FAULTED
head has none, and faulted is set only while online is (R153, R154). -/
def OrdersInPlace (s : State) : Prop :=
  ∀ h : HeadIx,
    (∀ k, (s.order h k).state.active = true → k = s.fetchIndex[h]) ∧
    ((s.orderAt h).state.active = true → s.heads[h].online = true ∧ s.heads[h].faulted = false) ∧
    (s.heads[h].faulted = true → s.heads[h].online = true)

/-- Every live order passes the static checks on the profile as it stands, and so was checked whole (R49, R51). -/
def LiveChecked (s : State) : Prop :=
  ∀ h k, (s.order h k).state.live = true → postFailure s h (s.order h k) = none

/-- A live order has completed no leg before it is CLEARED, and a CLEARED order has a leg left (R38, R95). -/
def LegsCounted (s : State) : Prop :=
  ∀ h k, (s.order h k).state.live = true →
    ((s.order h k).state ≠ .cleared → (s.order h k).completed = 0) ∧
    ((s.order h k).state = .cleared → (s.order h k).completed < (s.order h k).chain.length)

/-- The conditions on orders that the others build on. -/
def OrdersSound (s : State) : Prop := SetupStill s ∧ OrdersInPlace s ∧ LiveChecked s ∧ LegsCounted s

/-- Each wait list holds a head once, and only heads whose order at their fetch index is held (R69). -/
def ListsInOrder (s : State) : Prop :=
  (∀ z : ZoneIx, s.zones[z].waiters.Nodup ∧ ∀ h ∈ s.zones[z].waiters, (s.orderAt h).state.held = true) ∧
  (∀ i : SocketIx, s.socketWaiters[i].Nodup ∧ ∀ h ∈ s.socketWaiters[i], (s.orderAt h).state.held = true)

/-- Every head on the deck holds its resting zone; a head off the deck holds no zone and rests in none; a head holds
the zone of every leg its CLEARED order has left; and it holds a zone other than its resting zone only for such a
leg, or while FAULTED (R68, R78, R153). -/
def ZonesClaimed (s : State) : Prop :=
  ∀ h : HeadIx,
    (s.heads[h].online = true → ∃ z : ZoneIx, s.heads[h].resting = some z ∧ s.zones[z].holder = some h) ∧
    (s.heads[h].online = false → s.heads[h].resting = none ∧ ∀ z : ZoneIx, s.zones[z].holder ≠ some h) ∧
    (∀ l ∈ legsLeft s h, s.zones[l.zone].holder = some h) ∧
    (∀ z : ZoneIx, s.zones[z].holder = some h →
      s.heads[h].resting = some z ∨ s.heads[h].faulted = true ∨ ∃ l ∈ legsLeft s h, l.zone = z)

/-- A socket is reserved to a head and slot exactly while that slot, at the head's fetch index, is CLEARED and has a
leg left that names the socket (R106). -/
def SocketsReserved (s : State) : Prop :=
  ∀ (i : SocketIx) (h : HeadIx) (k : SlotIx),
    s.sockets[i].reservation = some (h, k) ↔ k = s.fetchIndex[h] ∧ i ∈ namedSockets s (legsLeft s h)

/-- No unit has tag 0 and no two carriers have units of one tag; no pending tag is carried or listed twice; the
pending tags are exactly those of the input picks that CLEARED orders have left, and no tag is left to two heads
(R125, R131, R132). -/
def TagsUnique (s : State) : Prop :=
  (∀ c u, unitAt s c = some u → u.tag ≠ 0 ∧ u.tag ∉ s.pendingTags) ∧
  (∀ c d u v, unitAt s c = some u → unitAt s d = some v → u.tag = v.tag → c = d) ∧
  s.pendingTags.Nodup ∧
  (∀ t, t ∈ s.pendingTags ↔ ∃ h, t ∈ inputTags s (legsLeft s h)) ∧
  (∀ h g t, t ∈ inputTags s (legsLeft s h) → t ∈ inputTags s (legsLeft s g) → h = g)

/-- PICKED is the units delivered, discarded and carried, modulo 2^32 (R135). -/
def TalliesBalance (s : State) : Prop :=
  s.picked = deliveredSum s + s.discarded + BitVec.ofNat 32 (unitsCarried s)

/-- An OFFLINE head's nozzles are EMPTY (R101). -/
def OfflineEmpty (s : State) : Prop :=
  ∀ h : HeadIx, s.heads[h].online = false →
    (s.nozzle h .a).content = .empty ∧ (s.nozzle h .b).content = .empty

/-- A unit in SEATING, LOADED or TESTING has no result and a unit in TESTED has one (R103, R128). -/
def ResultsFollowStates (s : State) : Prop :=
  ∀ i : SocketIx,
    match s.sockets[i].phase with
    | .seating u _ _ | .loaded u | .testing u => u.result = none
    | .tested u => u.result ≠ none
    | .disabled | .empty | .vacating _ _ | .fault _ _ => True

/-- Every line's sub-state follows its comparison: an unwatched line is QUIET; a watched line is DISTURBED exactly
while it disagrees with its expected level (R143, R146 to R148). -/
def LinesFollow (s : State) : Prop :=
  ∀ l : Line,
    match watchedLevel s l with
    | none => s.sensor l = .quiet
    | some e => (s.sensor l).isDisturbed = true ↔ s.level l ≠ e

/-- A head has the cause STRAY exactly while its stray source set holds an entry; an OFFLINE head has no cause and an
empty set (R145, R153). -/
def StrayFollowsSet (s : State) : Prop :=
  ∀ h : HeadIx,
    hasBit s.heads[h].causes Cause.stray.bit = !strayEmpty s.heads[h].stray ∧
    (s.heads[h].online = false → s.heads[h].causes = 0)

/-- The lines after an event, s being the state before it, with lines that follow their comparison, t the state after it,
and x the entry of a line in a head's stray source set as the event's changes of owner leave it. An unwatched line is QUIET;
a line that stays watched keeps its sub-state; one that becomes watched is QUIET where it agrees, and where it disagrees it
is DISTURBED with its timer in full and charged as open to the head concerned with it in t (R143, R145, R146; log 19). The
open entries of a line that goes out of DISTURBED or RECOVERING as it becomes unwatched leave (R143). A head has STRAY
exactly while its set holds an entry, where this was so before. -/
def LinesCompared (s t : State) (x : HeadIx → Line → Option StrayEntry) : Prop :=
  (∀ m, t.sensor m =
    match watchedLevel s m, watchedLevel t m with
    | _, none => .quiet
    | some _, some _ => s.sensor m
    | none, some e => if s.level m = e then .quiet else .disturbed s.limits.disturb.toNat) ∧
  (∀ g m, lineConcerns m g = true → t.heads[g].stray[strayIx m] =
    if watchedLevel s m = none ∧ (t.sensor m).isDisturbed = true ∧ headConcerned t m = some g
    then some ((x g m).getD .opened)
    else if s.sensor m ≠ .quiet ∧ watchedLevel t m = none ∧ x g m = some .opened then none else x g m) ∧
  (StrayFollowsSet s → ∀ g : HeadIx, t.heads[g].causes.getLsbD 0 = true ↔ ∃ i : Fin 18, t.heads[g].stray[i] ≠ none)

/-- A kind has at most one valid entry in the capture table (R173). -/
def KindsCapturedOnce (s : State) : Prop :=
  ∀ (i j : Fin 4) (e f : CaptureEntry),
    s.capture[i] = some e → s.capture[j] = some f → e.report.kind = f.report.kind → i = j

end Sys2Proof.Machine
end

