-- ==== Sys2Proof/Certificates/Slice0/Obligations.lean ====
section
/-! DEFINITION. The statements for the provers, in the order of OBLIGATIONS.json. -/

section

open Sys2Proof Sys2Proof.Machine

/-! ### The machine -/

/-- A step takes the command at the front of the queue, on the state with the queue's rest. -/
def Obligations.StepTakesFrontCommand : Prop :=
  ∀ (c : Instr) (rest : List Instr) (s : State),
    step { s with pending := c :: rest } = exec c { s with pending := rest }

/-- With no command waiting, a step is one port clock (the model's choice, log 2). It comes after every event still due from
the last tick, each taken as its own row takes it, in some order (the model's choice, log 3, log 4); then the divider count
advances, and when it reaches the divisor in force a tick occurs with the levels last sampled (R139). -/
def Obligations.IdleStepIsOneClock : Prop :=
  ∀ s : State, s.pending = [] → ∃ u, DueTaken s u ∧
    (u.dividerCount + 1 < u.divisorInForce.toNat →
      step s = .next { u with dividerCount := u.dividerCount + 1 }) ∧
    (u.divisorInForce.toNat ≤ u.dividerCount + 1 → step s = exec (.tick (heldPresence u) (heldGrip u)) u)

/-- Every command completes in every state, keeps the queue, and leaves the last grant naming its port; the reset input
leaves it naming the Drive Port, an event leaves it as it was. The arbiter grants the one waiting port, or of two the one
that the last grant does not name (R1, R2). -/
def Obligations.EveryCommandCompletes : Prop :=
  (∀ (c : Instr) (s : State), ∃ t, exec c s = .next t ∧ t.pending = s.pending ∧
    t.lastGrant = match portOf c with
      | some p => p
      | none => if c = .powerOnReset then .drive else s.lastGrant) ∧
  ∀ last : Port,
    grantNext last false false = none ∧
    grantNext last true false = some .controller ∧
    grantNext last false true = some .drive ∧
    ∃ p, grantNext last true true = some p ∧ p ≠ last

/-- Every command stores just the word that storedWord gives, and no other word of the memory changes (R3, R6, R9,
R10, R44, R45, R53). -/
def Obligations.MemoryChangesOnlyWhereStored : Prop :=
  ∀ (c : Instr) (s : State), MemoryCanonical s → ∃ t, exec c s = .next t ∧
    match storedWord c s with
    | some (a, w) => dcmRead t.dcm a = w ∧ ∀ x, x ≠ a → dcmRead t.dcm x = dcmRead s.dcm x
    | none => ∀ x, dcmRead t.dcm x = dcmRead s.dcm x

/-- The state after reset: the records and the words that show them read as the spec gives them, and every condition of
Safety holds. The raw levels, and the fields of words that show an absent zone or head, are the model's choice (log 7,
log 20). -/
def Obligations.ResetStateAsSpecified : Prop :=
  let s := State.reset
  (s.mode = .setup ∧ s.lastGrant = .drive ∧ s.drain = false ∧ s.pendingTags = [] ∧ s.picked = 0 ∧
    s.discarded = 0 ∧ s.dividerCount = 0 ∧ s.divisorInForce = 50000 ∧ s.debounceInForce = 4 ∧
    s.counter = { page := .zone, entry := 0, down := false, overrun := false }) ∧
  (controlResultWord s = 0 ∧ profileResultWord s = 0 ∧ s.snapshot = Vector.replicate 64 0 ∧
    s.snapshot = formSnapshot s ∧ alert s = false) ∧
  (∀ e : Fin 16, profileEntryWord s .zone e = 0 ∧ profileEntryWord s .socket e = 0 ∧ profileEntryWord s .head e = 0) ∧
  ([0, 1, 2, 3, 4, 5, 6, 7].map (limitsEntryWord s.limits) = [0xC350, 4, 0x32, 0x14, 5, 0xC8, 0x172, 3]) ∧
  (∀ (h : HeadIx) (k : SlotIx), s.order h k = Order.freed ∧ s.fetchIndex[h] = 0 ∧ s.expectedSeq[h] = 0) ∧
  (∀ h : HeadIx, s.holdTimers[h] = .stopped ∧ s.pointers[h] = .a ∧ s.heads[h] = HeadRec.offDeck ∧
    s.counters[h] = HeadCounters.zero) ∧
  (∀ h n, s.nozzle h n = { content := .empty, sensor := .quiet }) ∧
  (∀ i : SocketIx, s.sockets[i] =
    { phase := .disabled, reservation := none, sensor := .quiet, lastResult := .accepted } ∧ s.socketWaiters[i] = []) ∧
  (∀ z : ZoneIx, s.zones[z] = { holder := none, waiters := [] }) ∧
  (∀ l : Line, s.filter l = { raw := false, filtered := false, run := 0, changeDue := false }) ∧
  (s.delivered = Vector.replicate 8 0 ∧ s.capture = Vector.replicate 4 none ∧ s.overflow = false ∧ s.headsSeen = 0 ∧
    s.controllerProtect = 0 ∧ s.profileRefused = 0 ∧ s.pending = []) ∧
  (MemoryCanonical s ∧ OrdersSound s ∧ ListsInOrder s ∧ ZonesClaimed s ∧ SocketsReserved s ∧ TagsUnique s ∧
    TalliesBalance s ∧ OfflineEmpty s ∧ ResultsFollowStates s ∧ LinesFollow s ∧ StrayFollowsSet s ∧
    KindsCapturedOnce s ∧ NoWaitCycle s)

/-! ### Resets (R13, R15) -/

/-- POWER_ON_RESET brings every block to its power-on state; memory, raw levels, returned words and the queue stay (R15;
log 7, log 15). -/
def Obligations.PowerOnResetsEveryBlock : Prop :=
  ∀ s : State, exec .powerOnReset s = .next
    { State.reset with
      pending := s.pending, dcm := s.dcm, controllerData := s.controllerData, driveData := s.driveData
      freeDraws := s.freeDraws
      presence := s.presence.map (fun f => { raw := f.raw, filtered := false, run := 0, changeDue := false })
      grips := s.grips.map (fun p =>
        { a := { raw := p.a.raw, filtered := false, run := 0, changeDue := false }
          b := { raw := p.b.raw, filtered := false, run := 0, changeDue := false } }) }

/-- DECK_RESET takes every block to its DECK RESET state in every state and mode (R13 and its table, R56, R81, R105,
R155, R169). -/
def Obligations.DeckResetClearsTheDeck : Prop :=
  ∀ (body : BitVec 24) (s : State), ∃ t, exec (.deckReset body) s = .next t ∧
    t = { answered s (3#8 ++ body) .accepted with
      mode := .setup, pendingTags := [], drain := false
      discarded := s.discarded + BitVec.ofNat 32 (unitsCarried s)
      slots := t.slots, fetchIndex := t.fetchIndex, expectedSeq := t.expectedSeq, zones := t.zones
      socketWaiters := t.socketWaiters, holdTimers := t.holdTimers, nozzles := t.nozzles, pointers := t.pointers
      sockets := t.sockets, heads := t.heads, snapshot := formSnapshot t } ∧
    (∀ h k, t.order h k = Order.freed) ∧
    (∀ h : HeadIx, t.fetchIndex[h] = 0 ∧ t.expectedSeq[h] = 0 ∧ t.holdTimers[h] = .stopped ∧ t.pointers[h] = .a ∧
      t.nozzles[h] = { a := ⟨.empty, .quiet⟩, b := ⟨.empty, .quiet⟩ } ∧ t.heads[h] = HeadRec.offDeck) ∧
    (∀ z : ZoneIx, t.zones[z] = { holder := none, waiters := [] }) ∧
    (∀ i : SocketIx, t.socketWaiters[i] = [] ∧ t.sockets[i] =
      { phase := .disabled, reservation := none, sensor := .quiet, lastResult := s.sockets[i].lastResult })

/-- MODE_SETUP: refused with MODE in SETUP, with BUSY while work is in flight, with UNITS while a unit is carried;
otherwise it does all that DECK RESET does and records its own code (R32). -/
def Obligations.ModeSetupIsCarefulReset : Prop :=
  ∀ (body : BitVec 24) (s : State),
    (s.mode = .setup → exec (.modeSetup body) s = .next (answered s (2#8 ++ body) .mode)) ∧
    (s.mode = .run → ((∃ h, (s.orderAt h).state.active = true) ∨ ∃ h, headState s h = .faulted) →
      exec (.modeSetup body) s = .next (answered s (2#8 ++ body) .busy)) ∧
    (s.mode = .run → (∀ h, (s.orderAt h).state.active = false) → (∀ h, headState s h ≠ .faulted) →
      (unitsCarried s ≠ 0 → exec (.modeSetup body) s = .next (answered s (2#8 ++ body) .units)) ∧
      (unitsCarried s = 0 → ∃ t, exec (.deckReset body) s = .next t ∧ t.discarded = s.discarded ∧
        exec (.modeSetup body) s = .next { t with
          dcm := dcmWrite s.dcm controlAddr (2#8 ++ body), controlCode := 2, controlResult := .accepted }))

/-! ### Profile Store (R16 to R31) -/

/-- MODE_RUN: refused with MODE in RUN; refused with PROFILE and the first failing check in SETUP; otherwise the part
enters RUN with its sockets set up (R21, R27, R29, R31). -/
def Obligations.ModeRunChecksAndEnters : Prop :=
  ∀ (body : BitVec 24) (s : State),
    (s.mode = .run → exec (.modeRun body) s = .next (answered s (1#8 ++ body) .mode)) ∧
    (s.mode = .setup → ∀ f, profileFailure s = some f → exec (.modeRun body) s = .next
      { answered s (1#8 ++ body) .profile with
        profileResult := { code := .validation, page := f.page, entry := f.entry, check := f.check } }) ∧
    (s.mode = .setup → profileFailure s = none → ∃ t, exec (.modeRun body) s = .next t ∧
      t = { answered s (1#8 ++ body) .accepted with
        mode := .run, divisorInForce := s.limits.divisor, debounceInForce := s.limits.debounce, dividerCount := 0
        profileResult := { code := .accepted, page := .zone, entry := 0, check := 0 }
        sockets := t.sockets, capture := t.capture, overflow := t.overflow } ∧
      (∀ i : SocketIx, t.sockets[i] =
        { phase := if s.socketPage[i].enabled = false then .disabled
            else if s.level (.presence i) then .fault .stray none else .empty
          reservation := none, sensor := .quiet, lastResult := s.sockets[i].lastResult }) ∧
      let u := (all16.filter (fun i => s.socketPage[i].enabled && s.level (.presence i))).foldl
        (fun u i => captureFault { kind := .stray, head := none, socket := some i, slot := none, detail := 0 } u) s
      t.capture = u.capture ∧ t.overflow = u.overflow)

/-- The seventeen checks of MODE RUN, and which failure is reported: the lowest entry of the lowest check that fails
(R30). -/
def Obligations.FirstFailingCheckReported : Prop :=
  ∀ s : State,
    match profileFailure s with
    | none => ∀ n e, ¬ CheckFails s n e
    | some f => CheckFails s f.check.toNat f.entry ∧ f.page = checkPage f.check.toNat ∧
        ∀ n e, CheckFails s n e → f.check.toNat < n ∨ (n = f.check.toNat ∧ f.entry ≤ e)

/-- PROFILE_PAGE_WRITE sets the counter to the page named, entry 0, up, OVERRUN clear; PROFILE_ADDRESS_WRITE sets entry and
direction and keeps the page, and beyond the page's last entry it sets the last entry and OVERRUN; a move goes one entry up
or down, and beyond an end of the page sets OVERRUN and stays (R22, R23, R26). -/
def Obligations.CounterFollowsItsWords : Prop :=
  (∀ (w : Word) (s : State), ∃ p : Page, p.number = w.extractLsb' 0 2 ∧
    exec (.profilePageWrite w) s = .next
      { written s 0x10 w with counter := { page := p, entry := 0, down := false, overrun := false } }) ∧
  (∀ (w : Word) (s : State) (e : Fin 16), e.val = (w.extractLsb' 0 4).toNat →
    exec (.profileAddressWrite w) s = .next
      { written s 0x11 w with
        counter := if e.val ≤ s.counter.page.last
          then { page := s.counter.page, entry := e, down := w.getLsbD 31, overrun := false }
          else { page := s.counter.page, entry := Fin.ofNat 16 s.counter.page.last, down := w.getLsbD 31
                 overrun := true } }) ∧
  ∀ c : Counter, c.entry.val ≤ c.page.last →
    (c.down = false → c.entry.val < c.page.last →
      c.move = { c with entry := Fin.ofNat 16 (c.entry.val + 1) }) ∧
    (c.down = false → c.entry.val = c.page.last → c.move = { c with overrun := true }) ∧
    (c.down = true → 0 < c.entry.val → c.move = { c with entry := Fin.ofNat 16 (c.entry.val - 1) }) ∧
    (c.down = true → c.entry.val = 0 → c.move = { c with overrun := true })

/-- PROFILE_DATA_WRITE: refused and counted in RUN, ignored under OVERRUN, otherwise stored in the entry at the counter,
every field at its width and nothing else, with the counter moved (R16, R24). -/
def Obligations.DataWriteStoresEntry : Prop :=
  ∀ (w : Word) (s : State),
    (s.mode = .run → exec (.profileDataWrite w) s = .next
      { written s 0x12 w with
        profileResult := { code := .mode, page := s.counter.page, entry := s.counter.entry, check := 0 }
        profileRefused := oneMore s.profileRefused }) ∧
    (s.mode = .setup → s.counter.overrun = true → exec (.profileDataWrite w) s = .next (written s 0x12 w)) ∧
    (s.mode = .setup → s.counter.overrun = false → s.counter.entry.val ≤ s.counter.page.last →
      ∃ t, exec (.profileDataWrite w) s = .next t ∧
        t = { written s 0x12 w with
          counter := s.counter.move
          profileResult := { code := .accepted, page := s.counter.page, entry := s.counter.entry, check := 0 }
          zonePage := t.zonePage, socketPage := t.socketPage, headPage := t.headPage, limits := t.limits } ∧
        profileEntryWord t s.counter.page s.counter.entry = w &&& fieldMask s.counter.page s.counter.entry.val ∧
        ∀ (p : Page) (e : Fin 16), e.val ≤ p.last → ¬ (p = s.counter.page ∧ e = s.counter.entry) →
          profileEntryWord t p e = profileEntryWord s p e)

/-- PROFILE_DATA_READ returns the entry at the counter and moves the counter; under OVERRUN it returns zero and the counter
stays. A drive's read of the word passes and moves nothing (R25). -/
def Obligations.DataReadReturnsEntry : Prop :=
  ∀ s : State,
    (s.counter.overrun = false → exec .profileDataRead s = .next
      { s with
        lastGrant := .controller
        controllerData := profileEntryWord s s.counter.page s.counter.entry
        counter := s.counter.move }) ∧
    (s.counter.overrun = true → exec .profileDataRead s = .next
      { s with lastGrant := .controller, controllerData := 0 }) ∧
    ∀ h : HeadIx, busRead (.drive h) 0x12 s = returned s (dcmRead s.dcm 0x12)

/-! ### Head Control (R153 to R166) -/

/-- HEAD_ONLINE: its refusals in order, and the head brought onto the deck in a free PARK zone of its reach (R80, R156). -/
def Obligations.HeadOnlineBringsHeadOn : Prop :=
  ∀ (body : BitVec 24) (s : State) (w : Word) (h : HeadIx) (z : ZoneIx), LinesFollow s →
    w = 0x10#8 ++ body → h.val = (w.extractLsb' 20 2).toNat → z.val = (w.extractLsb' 16 4).toNat →
    let free := s.zonePage[z].type = 1 ∧ s.headPage[h].reach.getLsbD z = true ∧ s.zones[z].holder = none ∧
      s.zones[z].waiters = []
    let off := s.headPage[h].present = true ∧ s.heads[h].online = false
    let clear := s.level (.grip h .a) = false ∧ s.level (.grip h .b) = false
    (s.mode = .setup → exec (.headOnline body) s = .next (answered s w .mode)) ∧
    (s.mode = .run → ¬ off → exec (.headOnline body) s = .next (answered s w .state)) ∧
    (s.mode = .run → off → ¬ free → exec (.headOnline body) s = .next (answered s w .zone)) ∧
    (s.mode = .run → off → free → ¬ clear → exec (.headOnline body) s = .next (answered s w .occupied)) ∧
    (s.mode = .run → off → free → clear → exec (.headOnline body) s = .next
      { answered s w .accepted with
        heads := s.heads.set h { HeadRec.offDeck with online := true, resting := some z }
        zones := s.zones.set z { holder := some h, waiters := [] }
        nozzles := s.nozzles.set h { a := ⟨.empty, .quiet⟩, b := ⟨.empty, .quiet⟩ }
        pointers := s.pointers.set h .a
        fetchIndex := s.fetchIndex.set h (w.extractLsb' 12 4).toFin
        expectedSeq := s.expectedSeq.set h (w.extractLsb' 4 8) })

/-- HEAD_OFFLINE: its refusals in order, and the head taken off the deck (R80, R157). -/
def Obligations.HeadOfflineTakesHeadOff : Prop :=
  ∀ (body : BitVec 24) (s : State) (w : Word) (h : HeadIx),
    w = 0x11#8 ++ body → h.val = (w.extractLsb' 20 2).toNat →
    let standing := headState s h = .idle ∨ headState s h = .waiting
    let empty := (s.nozzle h .a).content = .empty ∧ (s.nozzle h .b).content = .empty
    (s.mode = .setup → exec (.headOffline body) s = .next (answered s w .mode)) ∧
    (s.mode = .run → ¬ standing → exec (.headOffline body) s = .next (answered s w .state)) ∧
    (s.mode = .run → standing → ¬ empty → exec (.headOffline body) s = .next (answered s w .occupied)) ∧
    (s.mode = .run → standing → empty → ∃ t, exec (.headOffline body) s = .next t ∧
      t = { answered s w .accepted with
        slots := t.slots, zones := t.zones, socketWaiters := t.socketWaiters, holdTimers := t.holdTimers
        nozzles := t.nozzles, heads := s.heads.set h HeadRec.offDeck } ∧
      (∀ g k, t.order g k = if g = h ∧ k = s.fetchIndex[h] ∧ headState s h = .waiting
        then { s.order g k with state := .refused .offline, blocker := none, skipGiven := false }
        else s.order g k) ∧
      (∀ z : ZoneIx, t.zones[z] =
        { holder := if s.heads[h].resting = some z ∧ s.zones[z].holder = some h then none else s.zones[z].holder
          waiters := if headState s h = .waiting then s.zones[z].waiters.filter (· ≠ h) else s.zones[z].waiters }) ∧
      (∀ i : SocketIx, t.socketWaiters[i] =
        if headState s h = .waiting then s.socketWaiters[i].filter (· ≠ h) else s.socketWaiters[i]) ∧
      (t.holdTimers = if headState s h = .waiting then s.holdTimers.set h .stopped else s.holdTimers) ∧
      (∀ g n, t.nozzle g n = if g = h then { content := .empty, sensor := .quiet } else s.nozzle g n))

/-- HEAD_RECOVER: what an action is refused with, the refusals in order, and the recovery: nozzles by their actions, every
zone but one released, the faulted flag cleared, causes kept; a DISTURBED line whose HOLDING nozzle is discarded agrees
again and is RECOVERING, and every other sub-state stays (R147, R165, R166). -/
def Obligations.HeadRecoverSettlesHead : Prop :=
  (∀ (s : State) (h : HeadIx) (n : NozzleId),
    let c := (s.nozzle h n).content
    let on := s.level (.grip h n)
    (actionRefusal s h n .leave = if c.isSuspect then some .state else none) ∧
    (actionRefusal s h n .keep = if c.isSuspect ∧ c.unit ≠ none ∧ on = true then none else some .state) ∧
    (actionRefusal s h n .discard = if on then some .occupied else none)) ∧
  ∀ (body : BitVec 24) (s : State) (w : Word) (h : HeadIx) (z : ZoneIx) (a b : NozzleAction),
    OrdersInPlace s → LinesFollow s → w = 0x12#8 ++ body →
    h.val = (w.extractLsb' 20 2).toNat → z.val = (w.extractLsb' 16 4).toNat →
    nozzleActionOfCode (w.extractLsb' 6 2) = some a → nozzleActionOfCode (w.extractLsb' 4 2) = some b →
    let settled := headState s h = .idle ∨ headState s h = .faulted
    let there := if s.heads[h].faulted then s.zones[z].holder = some h else s.heads[h].resting = some z
    (s.mode = .setup → exec (.headRecover body) s = .next (answered s w .mode)) ∧
    (s.mode = .run → ¬ settled → exec (.headRecover body) s = .next (answered s w .state)) ∧
    (s.mode = .run → settled → ¬ there → exec (.headRecover body) s = .next (answered s w .zone)) ∧
    (s.mode = .run → settled → there → ∀ r, actionRefusal s h .a a = some r →
      exec (.headRecover body) s = .next (answered s w r)) ∧
    (s.mode = .run → settled → there → actionRefusal s h .a a = none → ∀ r, actionRefusal s h .b b = some r →
      exec (.headRecover body) s = .next (answered s w r)) ∧
    (s.mode = .run → settled → there → actionRefusal s h .a a = none → actionRefusal s h .b b = none →
      ∃ t, exec (.headRecover body) s = .next t ∧
        t = { answered s w .accepted with
          heads := s.heads.set h { s.heads[h] with faulted := false, resting := some z }
          nozzles := t.nozzles, zones := t.zones, discarded := t.discarded } ∧
        (∀ y : ZoneIx, t.zones[y] =
          if s.zones[y].holder = some h ∧ y ≠ z then { s.zones[y] with holder := none } else s.zones[y]) ∧
        (∀ g, g ≠ h → t.nozzles[g] = s.nozzles[g]) ∧
        (∀ n, (t.nozzle h n).content = match (if n = .a then a else b), (s.nozzle h n).content with
          | .leave, c => c
          | .keep, .suspect (some u) => .holding u
          | .keep, c => c
          | .discard, _ => .empty) ∧
        (∀ n, (t.nozzle h n).sensor = match (if n = .a then a else b), (s.nozzle h n).content, (s.nozzle h n).sensor with
          | .discard, .holding _, .disturbed _ => .recovering (10 * s.limits.recover.toNat)
          | _, _, x => x) ∧
        t.discarded = s.discarded +
          BitVec.ofNat 32 ((if a = .discard ∧ (s.nozzle h .a).content.unit ≠ none then 1 else 0) +
            (if b = .discard ∧ (s.nozzle h .b).content.unit ≠ none then 1 else 0)))

/-- MASK gives OPERATOR and MASK_CLEAR clears every cause and empties the set, of a head that is not OFFLINE, in RUN
(R162, R163). -/
def Obligations.MaskCommandsChangeCauses : Prop :=
  ∀ (body : BitVec 24) (s : State) (h : HeadIx), h.val = (body.extractLsb' 20 2).toNat →
    (s.mode = .setup → exec (.mask body) s = .next (answered s (0x13#8 ++ body) .mode) ∧
      exec (.maskClear body) s = .next (answered s (0x14#8 ++ body) .mode)) ∧
    (s.mode = .run → s.heads[h].online = false →
      exec (.mask body) s = .next (answered s (0x13#8 ++ body) .state) ∧
      exec (.maskClear body) s = .next (answered s (0x14#8 ++ body) .state)) ∧
    (s.mode = .run → s.heads[h].online = true →
      exec (.mask body) s = .next { answered s (0x13#8 ++ body) .accepted with
        heads := s.heads.set h { s.heads[h] with causes := s.heads[h].causes ||| 0x20 } } ∧
      exec (.maskClear body) s = .next { answered s (0x14#8 ++ body) .accepted with
        heads := s.heads.set h { s.heads[h] with causes := 0, stray := Vector.replicate 18 none } })

/-! ### Unit Registry, Status and Capture (R136, R137, R169, R173 to R176) -/

/-- DRAIN sets the drain flag in RUN and is refused with MODE in SETUP; UNDRAIN clears it in either mode (R137).
CLEAR_TALLIES zeroes every tally where no unit is carried and is refused with UNITS elsewhere (R136). CLEAR_CAPTURE empties
the capture table, the overflow flag and the heads-seen set (R174); CLEAR_COUNTERS zeroes every counter and clears every
sequence flag (R176). -/
def Obligations.DrainAndClearCommands : Prop :=
  ∀ (body : BitVec 24) (s : State),
    (s.mode = .setup → exec (.drain body) s = .next (answered s (0x20#8 ++ body) .mode)) ∧
    (s.mode = .run → exec (.drain body) s = .next { answered s (0x20#8 ++ body) .accepted with drain := true }) ∧
    exec (.undrain body) s = .next { answered s (0x21#8 ++ body) .accepted with drain := false } ∧
    ((∃ c, unitAt s c ≠ none) → exec (.clearTallies body) s = .next (answered s (0x22#8 ++ body) .units)) ∧
    ((∀ c, unitAt s c = none) → exec (.clearTallies body) s = .next
      { answered s (0x22#8 ++ body) .accepted with
        picked := 0, discarded := 0, delivered := Vector.replicate 8 0 }) ∧
    exec (.clearCapture body) s = .next
      { answered s (0x30#8 ++ body) .accepted with
        capture := Vector.replicate 4 none, overflow := false, headsSeen := 0 } ∧
    exec (.clearCounters body) s = .next
      { answered s (0x31#8 ++ body) .accepted with
        counters := Vector.replicate 4 HeadCounters.zero, controllerProtect := 0, profileRefused := 0 }

/-- BAD_COMMAND: a control word whose code names no command, or a HEAD RECOVER with an action that names none, is written
and answered BAD COMMAND in either mode, and no block receives it (R12). -/
def Obligations.BadCommandAnswered : Prop :=
  ∀ (w : Word) (s : State),
    ((w.extractLsb' 24 8).toNat ∉ [1, 2, 3, 0x10, 0x11, 0x12, 0x13, 0x14, 0x20, 0x21, 0x22, 0x30, 0x31] ∨
      (w.extractLsb' 24 8 = 0x12 ∧ (w.extractLsb' 6 2 = 3 ∨ w.extractLsb' 4 2 = 3))) →
    exec (.badCommand w) s = .next (answered s w .badCommand)

/-- STATUS_WORD_0_READ takes a snapshot of the part as it stands and returns its word 0; every other read of a status word
returns the latched word (R5, R169). -/
def Obligations.StatusReadTakesSnapshot : Prop :=
  ∀ s : State,
    exec .statusWord0Read s = .next
      { s with lastGrant := .controller, snapshot := formSnapshot s, controllerData := summaryWord s } ∧
    (∀ n : Fin 64, (formSnapshot s)[n] = (statusWords s)[n]?.getD 0) ∧
    (∀ n : Fin 64, n ≠ 0 → busRead .controller (BitVec.ofNat 14 (0x40 + n)) s =
      { s with lastGrant := .controller, controllerData := s.snapshot[n] }) ∧
    (∀ (n : Fin 64) (h : HeadIx), busRead (.drive h) (BitVec.ofNat 14 (0x40 + n)) s = returned s s.snapshot[n])

/-- A captured fault repeats the entry of its kind, or takes the lowest free entry, or sets overflow; the head it names
joins the heads-seen set; nothing else changes (R173). -/
def Obligations.CaptureTableTakesFault : Prop :=
  ∀ (f : FaultReport) (s : State), ∃ table flag,
    captureFault f s =
      { s with
        capture := table, overflow := flag
        headsSeen := match f.head with
          | some h => s.headsSeen ||| BitVec.twoPow 4 h
          | none => s.headsSeen } ∧
    (∀ (i : Fin 4) (e : CaptureEntry), KindsCapturedOnce s → s.capture[i] = some e → e.report.kind = f.kind →
      table = s.capture.set i (some { e with repeats := oneMore e.repeats }) ∧ flag = s.overflow) ∧
    ((∀ (i : Fin 4) (e : CaptureEntry), s.capture[i] = some e → e.report.kind ≠ f.kind) →
      (∀ i : Fin 4, s.capture[i] = none → (∀ j : Fin 4, j < i → s.capture[j] ≠ none) →
        table = s.capture.set i (some { report := f, repeats := 0 }) ∧ flag = s.overflow) ∧
      ((∀ i : Fin 4, s.capture[i] ≠ none) → table = s.capture ∧ flag = true))

/-! ### Socket Table (R104 to R122) -/

/-- A socket's change of state keeps its sub-state and timer among LOADED, TESTING and TESTED; every other change sets it
QUIET, and its line's open entries leave every stray source set (R104, R143). How an entry of a stray source set changes
when its line is charged, settles or faults (R145, R149, R150). -/
def Obligations.SocketChangesAndStrayEntries : Prop :=
  (∀ (l : Line) (r : HeadRec),
    let x := r.stray[strayIx l]
    (r.chargedOpen l).stray = (if x = none then r.stray.set (strayIx l) (some .opened) else r.stray) ∧
    (r.chargedFaulted l).stray = r.stray.set (strayIx l) (some .faulted) ∧
    (r.chargedOpen l).causes = r.causes ||| 1 ∧ (r.chargedFaulted l).causes = r.causes ||| 1 ∧
    (x = some .opened → (r.openFaulted l).stray = r.stray.set (strayIx l) (some .faulted) ∧
      (r.withoutOpen l).stray = r.stray.set (strayIx l) none ∧
      (r.withoutOpen l).causes =
        if r.stray.set (strayIx l) none = Vector.replicate 18 none then r.causes &&& ~~~1 else r.causes) ∧
    (x ≠ some .opened → r.openFaulted l = r ∧ r.withoutOpen l = r)) ∧
  ∀ (i : SocketIx) (p : Phase) (s : State), ∃ t, changePhase i p s = t ∧
    t = { s with sockets := t.sockets, heads := t.heads } ∧
    (∀ j : SocketIx, j ≠ i → t.sockets[j] = s.sockets[j]) ∧
    (s.sockets[i].phase.seated = true → p.seated = true →
      t.sockets[i] = { s.sockets[i] with phase := p } ∧ t.heads = s.heads) ∧
    (¬ (s.sockets[i].phase.seated = true ∧ p.seated = true) →
      t.sockets[i] = { s.sockets[i] with phase := p, sensor := .quiet } ∧
      ∀ h : HeadIx, t.heads[h] = s.heads[h].withoutOpen (.presence i))

/-- ENABLE in DISABLED: EMPTY with presence OFF; FAULT STRAY, captured, with presence ON (R108). DISABLE in EMPTY: DISABLED
where the socket is unreserved and its list empty, else BUSY (R109). -/
def Obligations.EnableAndDisableSocket : Prop :=
  ∀ (i : SocketIx) (body : BitVec 28) (s : State), s.mode = .run →
    (s.sockets[i].phase = .disabled → ∃ t, exec (.enable i body) s = .next t ∧
      t = { written s (0x80 + 4 * i) (1#4 ++ body) with
        sockets := s.sockets.set i
          { s.sockets[i] with
            phase := if s.level (.presence i) then .fault .stray none else .empty
            sensor := .quiet, lastResult := .accepted }
        heads := t.heads, capture := t.capture, overflow := t.overflow } ∧
      (∀ h : HeadIx, t.heads[h] = s.heads[h].withoutOpen (.presence i)) ∧
      let u := if s.level (.presence i)
        then captureFault { kind := .stray, head := none, socket := some i, slot := none, detail := 0 } s else s
      t.capture = u.capture ∧ t.overflow = u.overflow) ∧
    (s.sockets[i].phase = .empty →
      ((s.sockets[i].reservation ≠ none ∨ s.socketWaiters[i] ≠ []) →
        exec (.disable i body) s = .next (socketAnswered s i (2#4 ++ body) .busy)) ∧
      (s.sockets[i].reservation = none → s.socketWaiters[i] = [] → ∃ t, exec (.disable i body) s = .next t ∧
        t = { written s (0x80 + 4 * i) (2#4 ++ body) with
          sockets := s.sockets.set i
            { s.sockets[i] with phase := .disabled, sensor := .quiet, lastResult := .accepted }
          heads := t.heads } ∧
        ∀ h : HeadIx, t.heads[h] = s.heads[h].withoutOpen (.presence i)))

/-- START, RESULT and ABORT where they are accepted: unit kept, sub-state and timer kept, and the result set as R111's
table gives (R110 to R112, R128). -/
def Obligations.TestCommandsMoveSocket : Prop :=
  ∀ (i : SocketIx) (body : BitVec 28) (s : State) (u : UnitRec), s.mode = .run →
    let x := s.sockets[i]
    (x.phase = .loaded u → exec (.start i body) s = .next
      { written s (0x80 + 4 * i) (3#4 ++ body) with
        sockets := s.sockets.set i { x with phase := .testing u, lastResult := .accepted } }) ∧
    (x.phase = .testing u → exec (.abort i body) s = .next
      { written s (0x80 + 4 * i) (5#4 ++ body) with
        sockets := s.sockets.set i { x with phase := .loaded u, lastResult := .accepted } }) ∧
    (x.phase = .testing u → ∀ c : ClassIx, (body.extractLsb' 0 4).toNat = c.val →
      exec (.result i body) s = .next
        { written s (0x80 + 4 * i) (4#4 ++ body) with
          sockets := s.sockets.set i
            { x with phase := .tested { u with result := some (.cls c) }, lastResult := .accepted } }) ∧
    (x.phase = .testing u → body.extractLsb' 0 4 = 8 → s.limits.overflowClass.toNat < 8 →
      ∃ r, exec (.result i body) s = .next
        { written s (0x80 + 4 * i) (4#4 ++ body) with
          sockets := s.sockets.set i
            { x with phase := .tested { u with result := some r }, lastResult := .accepted } } ∧
        (u.insertions < s.limits.retest → r = .retest) ∧
        (s.limits.retest ≤ u.insertions → ∃ c : ClassIx, r = .cls c ∧ c.val = s.limits.overflowClass.toNat))

/-- CLEAR_FAULT in FAULT: BUSY while reserved, STILL PRESENT for a device without a unit, else EMPTY with the unit
discarded, TESTED or LOADED (R113, R130). -/
def Obligations.ClearFaultSettlesSocket : Prop :=
  ∀ (i : SocketIx) (body : BitVec 28) (s : State) (why : FaultReason) (u : Option UnitRec), s.mode = .run →
    s.sockets[i].phase = .fault why u →
    let w : Word := 6#4 ++ body
    let on := s.level (.presence i)
    (s.sockets[i].reservation ≠ none → exec (.clearFault i body) s = .next (socketAnswered s i w .busy)) ∧
    (s.sockets[i].reservation = none → on = true → u = none →
      exec (.clearFault i body) s = .next (socketAnswered s i w .stillPresent)) ∧
    (s.sockets[i].reservation = none → (on = false ∨ u ≠ none) → ∃ t, exec (.clearFault i body) s = .next t ∧
      t = { written s (0x80 + 4 * i) w with
        sockets := s.sockets.set i
          { s.sockets[i] with
            phase := match on, u with
              | true, some v => if v.result.isSome then .tested v else .loaded v
              | _, _ => .empty
            sensor := .quiet, lastResult := .accepted }
        discarded := if on = false ∧ u ≠ none then s.discarded + 1 else s.discarded
        heads := t.heads } ∧
      ∀ h : HeadIx, t.heads[h] = s.heads[h].withoutOpen (.presence i))

/-- The refusals of the socket commands: BAD COMMAND before MODE before a command's own checks, and the states in which
each command is refused (R107 to R113). -/
def Obligations.SocketCommandsRefused : Prop :=
  ∀ (i : SocketIx) (s : State),
    (∀ w : Word, ((w.extractLsb' 28 4).toNat = 0 ∨ 6 < (w.extractLsb' 28 4).toNat ∨
        (w.extractLsb' 28 4 = 4 ∧ 8 < (w.extractLsb' 0 4).toNat)) →
      exec (.socketBadCommand i w) s = .next (socketAnswered s i w .badCommand)) ∧
    ∀ body : BitVec 28,
      (s.mode = .setup →
        exec (.enable i body) s = .next (socketAnswered s i (1#4 ++ body) .mode) ∧
        exec (.disable i body) s = .next (socketAnswered s i (2#4 ++ body) .mode) ∧
        exec (.start i body) s = .next (socketAnswered s i (3#4 ++ body) .mode) ∧
        ((body.extractLsb' 0 4).toNat ≤ 8 →
          exec (.result i body) s = .next (socketAnswered s i (4#4 ++ body) .mode)) ∧
        exec (.abort i body) s = .next (socketAnswered s i (5#4 ++ body) .mode) ∧
        exec (.clearFault i body) s = .next (socketAnswered s i (6#4 ++ body) .mode)) ∧
      (s.mode = .run →
        (s.sockets[i].phase.code ≠ 0 → exec (.enable i body) s = .next (socketAnswered s i (1#4 ++ body) .state)) ∧
        (s.sockets[i].phase.code ≠ 1 → exec (.disable i body) s = .next (socketAnswered s i (2#4 ++ body) .state)) ∧
        (s.sockets[i].phase.code = 2 ∨ s.sockets[i].phase.code = 6 →
          exec (.start i body) s = .next (socketAnswered s i (3#4 ++ body) .notSeated)) ∧
        (s.sockets[i].phase.code ∉ [2, 3, 6] →
          exec (.start i body) s = .next (socketAnswered s i (3#4 ++ body) .state)) ∧
        (s.sockets[i].phase.code ≠ 4 →
          ((body.extractLsb' 0 4).toNat ≤ 8 →
            exec (.result i body) s = .next (socketAnswered s i (4#4 ++ body) .state)) ∧
          exec (.abort i body) s = .next (socketAnswered s i (5#4 ++ body) .state)) ∧
        (s.sockets[i].phase.code ≠ 7 →
          exec (.clearFault i body) s = .next (socketAnswered s i (6#4 ++ body) .state)))

/-! ### Ring Shadow (R35 to R54) -/

/-- LEG_WRITE: suppressed on a live slot, captured in a FREE or FILLING one, and reopening a finished one (R41 to R43). -/
def Obligations.LegWriteCapturesLeg : Prop :=
  ∀ (h : HeadIx) (k : SlotIx) (j : Fin 7) (w : Word) (s : State),
    let o := s.order h k
    let t := written s (0x200 + 128 * h + 8 * k + (j + 1)) w
    (o.state.live = true → exec (.legWrite h k j w) s = .next (controllerSuppressed s h (some k))) ∧
    (o.state = .free ∨ o.state = .filling → exec (.legWrite h k j w) s = .next
      (t.setOrder h k { o with state := .filling, legs := o.legs.set j (some (legOfWord w)) })) ∧
    (o.state.finished = true → exec (.legWrite h k j w) s = .next
      (t.setOrder h k { Order.freed with
        state := .filling, legs := (Vector.replicate 7 none).set j (some (legOfWord w)) }))

/-- POST on a slot that is not live, in RUN: the sequence check, the static checks, and the state the order is left in
(R46 to R51). -/
def Obligations.PostChecksOrder : Prop :=
  ∀ (h : HeadIx) (k : SlotIx) (body : BitVec 31) (s : State), s.mode = .run → (s.order h k).state.live = false →
    let q : Seq := body.extractLsb' 16 8
    let offered : Order := { s.order h k with
      seq := some q, nowait := some (body.getLsbD 30), completed := 0, resolved := none, blocker := none
      skipGiven := false }
    let t := { written s (0x200 + 128 * h + 8 * k) (1#1 ++ body) with expectedSeq := s.expectedSeq.set h (q + 1) }
    (q = s.expectedSeq[h] → exec (.post h k body) s = .next
      ({ t with counters := s.counters.set h { s.counters[h] with live := false } }.setOrder h k
        { offered with state := match postFailure s h (s.order h k) with
          | none => .posted
          | some r => .refused r })) ∧
    (q ≠ s.expectedSeq[h] → exec (.post h k body) s = .next
      ((captureFault { kind := .sequence, head := some h, socket := none, slot := some k, detail := 0 }
        { t with
          counters := s.counters.set h
            { s.counters[h] with
              sequenceErrors := oneMore s.counters[h].sequenceErrors, live := true, sticky := true } }).setOrder h k
        { offered with state := .refused .sequence }))

/-- The chain of a slot, and the static checks of a post: an absent head reaches no zone; else MALFORMED for an ill-formed chain or a leg that fails
checks 2 to 5, then REACH, then PATH, else the post passes (R37, R48, R49). -/
def Obligations.StaticChecksInOrder : Prop :=
  (∀ (o : Order) (legs : List Leg), o.chain? = some legs ↔ IsChain o legs) ∧
  ∀ (s : State) (h : HeadIx) (o : Order),
    (s.headPage[h].present = false → postFailure s h o = some .reach) ∧
    (s.headPage[h].present = true →
      ((∀ legs, ¬ IsChain o legs) → postFailure s h o = some .malformed) ∧
      ∀ legs, IsChain o legs →
        (ChainMalformed s h legs → postFailure s h o = some .malformed) ∧
        (¬ ChainMalformed s h legs → ChainUnreachable s h legs → postFailure s h o = some .reach) ∧
        (¬ ChainMalformed s h legs → ¬ ChainUnreachable s h legs → ChainBroken s legs →
          postFailure s h o = some .path) ∧
        (¬ ChainMalformed s h legs → ¬ ChainUnreachable s h legs → ¬ ChainBroken s legs → postFailure s h o = none))

/-- WITHDRAW of a POSTED or held order refuses it with WITHDRAWN, and a held one leaves its lists and its timer (R52);
RETIRE of a finished slot frees it, and of a FREE or FILLING one changes nothing but memory (R54). -/
def Obligations.WithdrawAndRetire : Prop :=
  ∀ (h : HeadIx) (k : SlotIx) (body : BitVec 31) (s : State), s.mode = .run →
    let o := s.order h k
    let t := written s (0x200 + 128 * h + 8 * k) (0#1 ++ body)
    let gone : Order := { o with state := .refused .withdrawn, blocker := none, skipGiven := false }
    (o.state = .posted → exec (.withdraw h k body) s = .next (t.setOrder h k gone)) ∧
    (o.state.held = true → exec (.withdraw h k body) s = .next ((listsLeft t h).setOrder h k gone)) ∧
    (o.state.finished = true → exec (.retire h k body) s = .next (t.setOrder h k Order.freed)) ∧
    (o.state = .free ∨ o.state = .filling → exec (.retire h k body) s = .next t)

/-- Suppressed writes: POST set on a live slot, POST clear on a CLEARED one, the controller's write of a report word, and
every drive write that the map suppresses (R9, R10, R45, R53). -/
def Obligations.SuppressedWritesCounted : Prop :=
  (∀ (h : HeadIx) (k : SlotIx) (w : Word) (s : State), s.mode = .run →
    ((w.getLsbD 31 = true ∧ (s.order h k).state.live = true) ∨
      (w.getLsbD 31 = false ∧ (s.order h k).state = .cleared)) →
    exec (.headerWriteSuppressed h k w) s = .next (controllerSuppressed s h (some k))) ∧
  (∀ (h : HeadIx) (w : Word) (s : State),
    exec (.controllerReportWrite h w) s = .next (controllerSuppressed s h none)) ∧
  (∀ (h : HeadIx) (a : Addr) (w : Word) (s : State),
    (a.toNat = 0 ∨ (0x10 ≤ a.toNat ∧ a.toNat ≤ 0x13) ∨ (0x40 ≤ a.toNat ∧ a.toNat < 0x100) ∨
      (0x100 ≤ a.toNat ∧ a.toNat < 0x104 ∧ a.toNat ≠ 0x100 + h) ∨ (0x200 ≤ a.toNat ∧ a.toNat < 0x400)) →
    exec (.driveProtect h a w) s = .next (driveSuppressed s h))

/-- Writes that reach memory and change nothing else of the part: to words without a behaviour on either port, to the
overlaid and note words by the controller, and header writes in SETUP (R4, R44). -/
def Obligations.PassedWritesReachMemory : Prop :=
  ∀ (src : Source) (a : Addr) (w : Word) (s : State),
    let n := a.toNat
    ((1 ≤ n ∧ n < 0x10) ∨ (0x14 ≤ n ∧ n < 0x40) ∨ (0x104 ≤ n ∧ n < 0x200) ∨ 0x400 ≤ n ∨
      (src = .controller ∧ (n = 0x13 ∨ (0x40 ≤ n ∧ n < 0x80) ∨ (0x80 ≤ n ∧ n < 0xC0 ∧ n % 4 ≠ 0) ∨
        (0xC0 ≤ n ∧ n < 0x100) ∨ (s.mode = .setup ∧ 0x200 ≤ n ∧ n < 0x400 ∧ n % 8 = 0)))) →
    exec (.passedWrite src a w) s = .next { s with lastGrant := src.port, dcm := dcmWrite s.dcm n w }

/-! ### Clearance Unit (R58 to R77) -/

/-- The fetches that need no evaluation (R59 to R61). -/
def Obligations.FetchSettledWithoutEvaluation : Prop :=
  ∀ (h : HeadIx) (k : SlotIx) (s : State),
    let serving := s.mode = .run ∧ s.headPage[h].present = true ∧ s.heads[h].online = true
    let o := s.order h k
    (¬ serving → exec (.fetch h k) s = .next (returned s 0)) ∧
    (serving → k ≠ s.fetchIndex[h] → exec (.fetch h k) s = .next
      { captureFault { kind := .fetchOrder, head := some h, socket := none, slot := some k, detail := 0 }
          { returned s 0 with
            counters := s.counters.set h { s.counters[h] with fetchOrder := oneMore s.counters[h].fetchOrder } } with
        driveData := 0 }) ∧
    (serving → k = s.fetchIndex[h] →
      (o.state = .free ∨ o.state = .filling ∨ o.state = .done ∨ (∃ c, o.state = .aborted c) →
        exec (.fetch h k) s = .next (returned s 0)) ∧
      (∀ r, o.state = .refused r → o.skipGiven = true → exec (.fetch h k) s = .next (returned s 0)) ∧
      (∀ r, o.state = .refused r → o.skipGiven = false → exec (.fetch h k) s = .next
        { (returned s (skipWord k r)).setOrder h k { o with skipGiven := true } with
          fetchIndex := s.fetchIndex.set h (k + 1) }) ∧
      (o.state = .cleared → exec (.fetch h k) s = .next (returned s (dcmRead s.dcm (0x200 + 128 * h + 8 * k)))) ∧
      (o.state.live = true → o.state ≠ .cleared →
        (s.heads[h].faulted = true → exec (.fetch h k) s = .next (returned s haltWord)) ∧
        (s.heads[h].faulted = false → s.heads[h].causes ≠ 0 → exec (.fetch h k) s = .next
          (returned s (if s.heads[h].causes &&& s.headPage[h].actions = 0 then dwellWord k else haltWord)))))

/-- An order that passes the refusal checks, with every socket ready and every needed zone available and no other head
before it, is cleared: it claims its zones, reserves its sockets, leaves its lists, resolves its nozzles, makes its tags
pending, and the true header is returned (R62, R70, R71, R77). The lines that its first leg names become unwatched, and are
QUIET (R142, R143). That a head not in a list has every head of the list before it is the model's reading (log 10). -/
def Obligations.FetchClearsOrder : Prop :=
  ∀ (h : HeadIx) (k : SlotIx) (s : State) (legs : List Leg) (walk : Walk),
    s.mode = .run → s.headPage[h].present = true → s.heads[h].online = true → s.heads[h].faulted = false →
    s.heads[h].causes = 0 → k = s.fetchIndex[h] →
    (s.order h k).state = .posted ∨ (s.order h k).state.held = true → legs = (s.order h k).chain →
    refusalChecks s h legs = .ok walk → walk.waits = false →
    (∀ i ∈ namedSockets s legs, ∀ y, ¬ StandsBefore y h s.socketWaiters[i]) →
    (∀ z ∈ neededZones s h legs, s.zones[z].holder = some h ∨
      (s.zones[z].holder = none ∧ ∀ y, ¬ StandsBefore y h s.zones[z].waiters)) →
    ∃ t, exec (.fetch h k) s = .next t ∧
      t = { returned s (dcmRead s.dcm (0x200 + 128 * h + 8 * k)) with
        slots := t.slots, zones := t.zones, socketWaiters := t.socketWaiters, sockets := t.sockets
        nozzles := t.nozzles, heads := t.heads, pendingTags := t.pendingTags
        holdTimers := s.holdTimers.set h .stopped } ∧
      (∀ g j, t.order g j = if g = h ∧ j = k
        then { s.order h k with state := .cleared, blocker := none, resolved := some s.pointers[h] }
        else s.order g j) ∧
      (∀ z : ZoneIx, t.zones[z] =
        { holder := if z ∈ neededZones s h legs then some h else s.zones[z].holder
          waiters := s.zones[z].waiters.filter (· ≠ h) }) ∧
      (∀ i : SocketIx, t.socketWaiters[i] = s.socketWaiters[i].filter (· ≠ h) ∧
        t.sockets[i].reservation =
          (if i ∈ namedSockets s legs then some (h, k) else s.sockets[i].reservation) ∧
        t.sockets[i].phase = s.sockets[i].phase ∧ t.sockets[i].lastResult = s.sockets[i].lastResult) ∧
      (∀ tag, tag ∈ t.pendingTags ↔ tag ∈ s.pendingTags ∨ tag ∈ inputTags s legs) ∧
      (∀ g n, (t.nozzle g n).content = (s.nozzle g n).content) ∧
      (∀ g : HeadIx, t.heads[g].online = s.heads[g].online ∧ t.heads[g].faulted = s.heads[g].faulted ∧
        t.heads[g].resting = s.heads[g].resting ∧
        ∀ n : Nat, 0 < n → t.heads[g].causes.getLsbD n = s.heads[g].causes.getLsbD n) ∧
      (LinesFollow s → LinesCompared s t (fun g m => s.heads[g].stray[strayIx m]))

/-- An order that passes the refusal checks and is socket-blocked or zone-blocked is held: coming into SOCKET WAIT or ZONE
WAIT it joins its lists, with a POSTED order's hold timer started, and where no circle of waiting heads closes the fetch
returns DWELL; already in that state it joins nothing. The heads it waits on are those R73 gives, and its blocker is the
first that R76's search finds (R70, R71, R73, R75, R76). That a head not in a list has every head of the list before it is
the model's reading of R73 (log 10). -/
def Obligations.FetchHoldsBlockedOrder : Prop :=
  (∀ (s : State) (x y : HeadIx), y ∈ waitsOn s x ↔ WaitsOn s x y) ∧
  (∀ (s : State) (x y : HeadIx), (s.orderAt x).state.held = true →
    ((waitsOn s x).head? = some y ↔ FoundFirst s x y)) ∧
  ∀ (h : HeadIx) (k : SlotIx) (s : State) (legs : List Leg) (walk : Walk),
    s.mode = .run → s.headPage[h].present = true → s.heads[h].online = true → s.heads[h].faulted = false →
    s.heads[h].causes = 0 → k = s.fetchIndex[h] →
    ((s.order h k).state = .posted ∧ (s.order h k).nowait = some false) ∨ (s.order h k).state.held = true →
    legs = (s.order h k).chain → refusalChecks s h legs = .ok walk →
    let socketBlocked := walk.waits = true ∨ ∃ i ∈ namedSockets s legs, ∃ y, StandsBefore y h s.socketWaiters[i]
    let zoneBlocked := ∃ z ∈ neededZones s h legs, s.zones[z].holder ≠ some h ∧
      (s.zones[z].holder ≠ none ∨ ∃ y, StandsBefore y h s.zones[z].waiters)
    let dwelling (u : State) : State :=
      { u.setOrder h k { u.order h k with blocker := (waitsOn u h).head? } with
        lastGrant := .drive, driveData := dwellWord k }
    let atSockets := heldWith s h k .socketWait (namedSockets s legs) []
    let atZones := heldWith s h k .zoneWait [] (neededZones s h legs)
    (socketBlocked →
      ((s.order h k).state = .socketWait → exec (.fetch h k) s = .next (dwelling s)) ∧
      ((s.order h k).state ≠ .socketWait → NoWaitCycle atSockets → exec (.fetch h k) s = .next (dwelling atSockets)) ∧
      ((s.order h k).state ≠ .socketWait → ¬ NoWaitCycle atSockets →
        exec (.fetch h k) s = .next (skippedWith atSockets h k .deadlock))) ∧
    (¬ socketBlocked → zoneBlocked →
      ((s.order h k).state = .zoneWait → exec (.fetch h k) s = .next (dwelling s)) ∧
      ((s.order h k).state ≠ .zoneWait → NoWaitCycle atZones → exec (.fetch h k) s = .next (dwelling atZones)) ∧
      ((s.order h k).state ≠ .zoneWait → ¬ NoWaitCycle atZones →
        exec (.fetch h k) s = .next (skippedWith atZones h k .deadlock)))

/-- An order that fails a refusal check, and a POSTED NOWAIT order that would be held, is refused and passed over (R58,
R63, R72, R74). -/
def Obligations.FetchRefusesOrder : Prop :=
  ∀ (h : HeadIx) (k : SlotIx) (s : State) (legs : List Leg),
    s.mode = .run → s.headPage[h].present = true → s.heads[h].online = true → s.heads[h].faulted = false →
    s.heads[h].causes = 0 → k = s.fetchIndex[h] →
    (s.order h k).state = .posted ∨ (s.order h k).state.held = true → legs = (s.order h k).chain →
    (∀ r, refusalChecks s h legs = .error r → exec (.fetch h k) s = .next (skippedWith s h k r)) ∧
    (∀ walk, refusalChecks s h legs = .ok walk →
      (s.order h k).state = .posted → (s.order h k).nowait = some true →
      (walk.waits = true ∨ (∃ i ∈ namedSockets s legs, ∃ y, StandsBefore y h s.socketWaiters[i]) ∨
        ∃ z ∈ neededZones s h legs, s.zones[z].holder ≠ some h ∧
          (s.zones[z].holder ≠ none ∨ ∃ y, StandsBefore y h s.zones[z].waiters)) →
      exec (.fetch h k) s = .next (skippedWith s h k .busy))

/-- The refusal checks: the path check of leg 0, then the legs in chain order, each with its checks 2 to 5 in their order,
the first failure ending them; what each leg leaves in the copy of nozzles and sockets, an unknown unit where its socket is in
wait, and the wait condition kept (R63 to R67). The condition a leg takes at a socket, row by row (R66), and the eligibility
of a unit: DUP TAG, the three RETEST checks and the BIN check (R132 to R134). -/
def Obligations.SocketConditionsAndEligibility : Prop :=
  (∀ (s : State) (i : SocketIx) (z : ZoneIx) (u : UnitRec) (t : Tag),
    (dupTag s t = true ↔ (∃ c v, unitAt s c = some v ∧ v.tag = t) ∨ t ∈ s.pendingTags) ∧
    (retestFails s i u = true ↔ (∃ c, u.result = some (.cls c)) ∨ s.limits.retest ≤ u.insertions ∨
      (s.limits.rotate = true ∧ u.lastSocket = some i)) ∧
    (binFails s z u = true ↔
      ¬ ∃ c : ClassIx, u.result = some (.cls c) ∧ s.zonePage[z].classes.getLsbD c = true)) ∧
  (∀ (s : State) (h : HeadIx) (l : Leg) (rest : List Leg),
    let near := ∃ z, s.heads[h].resting = some z ∧ (l.zone = z ∨ s.zonePage[z].neighbours.getLsbD l.zone = true)
    let copied (n : NozzleId) : SimNozzle := match (s.nozzle h n).content with
      | .empty => .empty
      | .holding u => .holding (some u)
      | .suspect _ => .suspect
    (¬ near → refusalChecks s h (l :: rest) = .error .path) ∧
    (near → refusalChecks s h (l :: rest) = checkLegs s h (l :: rest)
      { nozzles := { a := copied .a, b := copied .b }, filledNozzles := { a := false, b := false }
        emptied := [], filled := [], waits := false })) ∧
  (∀ (s : State) (h : HeadIx) (k : Walk), checkLegs s h [] k = .ok k) ∧
  (∀ (s : State) (h : HeadIx) (l : Leg) (rest : List Leg) (k : Walk),
    checkLegs s h (l :: rest) k =
      match checkLeg s h l k with
      | .error r => .error r
      | .ok left => checkLegs s h rest left) ∧
  (∀ (s : State) (h : HeadIx) (l : Leg) (k : Walk),
    let i := l.socket
    let ty := s.zonePage[l.zone].type
    let n := match l.nozzle with
      | .a => NozzleId.a
      | .b => NozzleId.b
      | .active => s.pointers[h]
      | .other => s.pointers[h].other
    let nozzleTaken := k.nozzles.get n ≠ .empty ∨ k.filledNozzles.get n = true
    (l.action = .travel → checkLeg s h l k = .ok k) ∧
    (l.action = .pick → ty = 3 → checkLeg s h l k =
      if s.drain = true then .error .drain
      else if nozzleTaken then .error .nozzle
      else if dupTag s l.tag = true then .error .dupTag
      else .ok { k with
        nozzles := k.nozzles.set n
          (.holding (some { tag := l.tag, insertions := 0, lastSocket := none, result := none }))
        filledNozzles := k.filledNozzles.set n true }) ∧
    (l.action = .pick → ty = 4 → checkLeg s h l k =
      if nozzleTaken then .error .nozzle
      else match pickCondition s k i with
        | .refuse => .error .socket
        | .wait => .ok { k with
            nozzles := k.nozzles.set n (.holding none), filledNozzles := k.filledNozzles.set n true
            emptied := i :: k.emptied, waits := true }
        | .ready => .ok { k with
            nozzles := k.nozzles.set n (.holding s.sockets[i].phase.unit)
            filledNozzles := k.filledNozzles.set n true, emptied := i :: k.emptied }) ∧
    (l.action = .place → ty = 4 → checkLeg s h l k =
      match k.nozzles.get n, placeCondition s k i with
      | .empty, _ => .error .nozzle
      | .suspect, _ => .error .nozzle
      | .holding _, .refuse => .error .socket
      | .holding u, c =>
        if (u.map (retestFails s i)).getD false = true then .error .retest
        else .ok { k with
          nozzles := k.nozzles.set n .empty, filled := i :: k.filled
          waits := if c = .wait then true else k.waits }) ∧
    (l.action = .place → ty = 5 → checkLeg s h l k =
      match k.nozzles.get n with
      | .empty => .error .nozzle
      | .suspect => .error .nozzle
      | .holding u =>
        if (u.map (binFails s l.zone)).getD false = true then .error .bin
        else .ok { k with nozzles := k.nozzles.set n .empty })) ∧
  ∀ (s : State) (k : Walk) (i : SocketIx),
    let x := s.sockets[i]
    let clear := x.reservation = none ∧ x.sensor = .quiet
    pickCondition s k i =
      (if i ∈ k.filled ∨ i ∈ k.emptied then .refuse
        else match x.phase with
          | .disabled | .fault _ _ | .vacating _ _ => .refuse
          | .empty => if x.reservation = none then .refuse else .wait
          | .seating _ _ _ | .loaded _ | .testing _ => .wait
          | .tested _ => if clear then .ready else .wait) ∧
    placeCondition s k i =
      (if i ∈ k.filled then .refuse
        else match x.phase with
          | .disabled | .fault _ _ => .refuse
          | .empty => if clear then .ready else .wait
          | .seating _ _ _ | .loaded _ | .testing _ | .tested _ | .vacating _ _ =>
            if i ∈ k.emptied ∧ clear then .ready else .wait)

/-! ### Report Unit (R83 to R98) -/

/-- What a completed leg does, by its action, its zone, its nozzle and the levels (R88 to R93). A nozzle and a socket that
do not stand as clearance left them are the model's choice and not stated (log 11). -/
def Obligations.LegEffectsByTable : Prop :=
  ∀ (h : HeadIx) (p : NozzleId) (l : Leg) (s : State),
    let n := l.nozzle.resolve p
    let c := (s.nozzle h n).content
    let on := s.level (.grip h n)
    let i := l.socket
    let x := s.sockets[i].phase
    let ty := s.zonePage[l.zone].type
    let noTag : State := { s with pendingTags := s.pendingTags.filter (· ≠ l.tag) }
    let emptied : State := setContent h n .empty s
    (l.action = .travel → legEffect h p l s = (s, none)) ∧
    (l.action = .pick → ty = 3 →
      (c.isSuspect ∨ on = false → legEffect h p l s = (noTag, some .mispick)) ∧
      (c = .empty → on = true → legEffect h p l s =
        ({ setContent h n (.holding { tag := l.tag, insertions := 0, lastSocket := none, result := none }) noTag with
          picked := s.picked + 1 }, none))) ∧
    (l.action = .pick → ty = 4 →
      (c.isSuspect ∨ on = false →
        legEffect h p l s = (changePhase i (.fault .mispick x.unit) s, some .mispick)) ∧
      (∀ u, c = .empty → on = true → x.unit = some u → legEffect h p l s =
        (changePhase i (if s.level (.presence i) then .vacating h s.limits.seatWindow.toNat else .empty)
          (setContent h n (.holding u) s), none))) ∧
    (l.action = .place → ty = 4 →
      (x.isVacating → legEffect h p l s =
        (changePhase i (.fault .stuck none) s, some (if c.isSuspect then .misplace else .stuck))) ∧
      (x.isFault → legEffect h p l s = (s, some .misplace)) ∧
      (x = .empty → (on = true ∨ c.isSuspect) →
        legEffect h p l s = (changePhase i (.fault .misplace none) s, some .misplace)) ∧
      (∀ u, x = .empty → on = false → c = .holding u →
        let v : UnitRec := { u with insertions := u.insertions + 1, lastSocket := some i, result := none }
        legEffect h p l s =
          (changePhase i (if s.level (.presence i) then .loaded v else .seating v h s.limits.seatWindow.toNat) emptied,
            none))) ∧
    (l.action = .place → ty = 5 →
      (c.isSuspect ∨ on = true → legEffect h p l s = (s, some .misplace)) ∧
      (∀ u k, on = false → c = .holding u → u.result = some (.cls k) → legEffect h p l s =
        ({ emptied with delivered := s.delivered.set k (s.delivered[k] + 1) }, none)))

/-- LEG_DONE for the leg due: the leg's effect, the count, reservations and tags dropped, and the order going on, DONE or
ABORTED with what each brings (R78, R79, R88, R94, R95, R97). A line that was named by the leg and is watched again is
DISTURBED where it disagrees, and charged to the head concerned once the zones are released (R143, R146; the model's
reading, log 19). -/
def Obligations.LegDoneAdvancesOrder : Prop :=
  ∀ (h : HeadIx) (body : BitVec 30) (s : State) (l : Leg) (k : SlotIx) (j : Nat),
    headState s h = .moving → k = s.fetchIndex[h] → j = (s.order h k).completed →
    k.val = (body.extractLsb' 24 4).toNat → j = (body.extractLsb' 20 3).toNat → (s.order h k).chain[j]? = some l →
    let o := s.order h k
    let after := o.chain.drop (j + 1)
    let s' : State := { s with lastGrant := .drive, dcm := dcmWrite s.dcm (0x100 + h) (1#2 ++ body) }
    let e := legEffect h (o.resolved.getD s.pointers[h]) l s'
    let ends := e.2 ≠ none ∨ after = []
    let kept := if e.2 = none then after else []
    ∃ t, exec (.legDone h body) s = .next t ∧
      t = { s' with
        slots := t.slots, zones := t.zones, sockets := t.sockets, nozzles := t.nozzles, heads := t.heads
        pointers := t.pointers, fetchIndex := if ends then s.fetchIndex.set h (k + 1) else s.fetchIndex
        pendingTags := if e.2 = none then e.1.pendingTags
          else e.1.pendingTags.filter (fun t => ¬ t ∈ inputTags s after)
        picked := e.1.picked, delivered := e.1.delivered
        capture := t.capture, overflow := t.overflow, headsSeen := t.headsSeen } ∧
      (∀ g m, t.order g m = if g = h ∧ m = k
        then { o with
          completed := j + 1
          state := match e.2 with
            | some c => .aborted c
            | none => if after = [] then .done else .cleared }
        else s.order g m) ∧
      (∀ z : ZoneIx, t.zones[z] = if s.zones[z].holder = some h ∧ z ≠ l.zone ∧ ¬ z ∈ kept.map Leg.zone
        then { s.zones[z] with holder := none } else s.zones[z]) ∧
      (∀ i : SocketIx, t.sockets[i].phase = e.1.sockets[i].phase ∧ t.sockets[i].lastResult = s.sockets[i].lastResult ∧
        t.sockets[i].reservation =
          (if s.sockets[i].reservation = some (h, k) ∧ ¬ i ∈ namedSockets s kept then none
          else s.sockets[i].reservation)) ∧
      (∀ g n, (t.nozzle g n).content = (e.1.nozzle g n).content) ∧
      (∀ g : HeadIx, t.heads[g].online = s.heads[g].online ∧ t.heads[g].faulted = s.heads[g].faulted ∧
        t.heads[g].resting = if g = h then some l.zone else s.heads[g].resting) ∧
      (∀ (g : HeadIx) (n : Nat), 0 < n → (t.heads[g].causes.getLsbD n = true ↔ s.heads[g].causes.getLsbD n = true ∨
        (g = h ∧ ∃ c, e.2 = some c ∧ n = if c = .mispick then 1 else 2))) ∧
      (t.pointers = if e.2 = none ∧ after = [] ∧ s.headPage[h].twoNozzles = true ∧
          (∃ m ∈ o.chain, (m.action = .pick ∨ m.action = .place) ∧ (m.nozzle = .active ∨ m.nozzle = .other))
        then s.pointers.set h s.pointers[h].other else s.pointers) ∧
      (let u := match e.2 with
        | some c => captureFault
          { kind := abortKind c, head := some h, socket := legSocket s l, slot := some k, detail := 0 } s
        | none => s
      t.capture = u.capture ∧ t.overflow = u.overflow ∧ t.headsSeen = u.headsSeen) ∧
      (OrdersInPlace s → LinesFollow s → LinesCompared s t (fun g m => e.1.heads[g].stray[strayIx m]))

/-- LEG_FAILED for the leg due: the order's sockets in FAULT LEG FAIL, the nozzles of the unfinished legs SUSPECT, their
tags dropped, the order ABORTED, the head FAULTED with its whole claim, and the fault captured with the drive's code
(R79, R98, R117). The lines of those sockets and nozzles become unwatched, and are QUIET with their open entries gone
(R142, R143). -/
def Obligations.LegFailedFaultsHead : Prop :=
  ∀ (h : HeadIx) (body : BitVec 30) (s : State) (l : Leg) (k : SlotIx) (j : Nat),
    headState s h = .moving → k = s.fetchIndex[h] → j = (s.order h k).completed →
    k.val = (body.extractLsb' 24 4).toNat → j = (body.extractLsb' 20 3).toNat → (s.order h k).chain[j]? = some l →
    let o := s.order h k
    let left := o.chain.drop j
    ∃ t, exec (.legFailed h body) s = .next t ∧
      t = { s with
        lastGrant := .drive, dcm := dcmWrite s.dcm (0x100 + h) (2#2 ++ body)
        fetchIndex := s.fetchIndex.set h (k + 1)
        pendingTags := s.pendingTags.filter (fun t => ¬ t ∈ inputTags s left)
        slots := t.slots, sockets := t.sockets, nozzles := t.nozzles, heads := t.heads
        capture := t.capture, overflow := t.overflow, headsSeen := t.headsSeen } ∧
      (∀ g m, t.order g m =
        if g = h ∧ m = k then { o with state := .aborted .legFail } else s.order g m) ∧
      (∀ i : SocketIx,
        (t.sockets[i].phase = if s.sockets[i].reservation = some (h, k)
          then .fault .legFail s.sockets[i].phase.unit else s.sockets[i].phase) ∧
        t.sockets[i].lastResult = s.sockets[i].lastResult ∧
        t.sockets[i].reservation =
          if s.sockets[i].reservation = some (h, k) then none else s.sockets[i].reservation) ∧
      (∀ g n, (t.nozzle g n).content =
        if g = h ∧ ∃ m ∈ left, legNozzle (o.resolved.getD s.pointers[h]) m = some n
        then .suspect (s.nozzle g n).content.unit else (s.nozzle g n).content) ∧
      (∀ g : HeadIx, t.heads[g].online = s.heads[g].online ∧ t.heads[g].resting = s.heads[g].resting ∧
        (t.heads[g].faulted = if g = h then true else s.heads[g].faulted) ∧
        ∀ n : Nat, 0 < n → t.heads[g].causes.getLsbD n = s.heads[g].causes.getLsbD n) ∧
      (let u := captureFault
        { kind := .legFail, head := some h, socket := legSocket s l, slot := some k, detail := body.extractLsb' 0 8 } s
      t.capture = u.capture ∧ t.overflow = u.overflow ∧ t.headsSeen = u.headsSeen) ∧
      (OrdersInPlace s → LinesFollow s → LinesCompared s t (fun g m =>
        let x := s.heads[g].stray[strayIx m]
        match m with
        | .presence i => if s.sockets[i].reservation = some (h, k) ∧ x = some .opened then none else x
        | .grip _ _ => x))

/-- A report that fails acceptance is written, counted and captured, gives the cause REPORT to a head that is not OFFLINE,
and changes nothing else (R84, R85). -/
def Obligations.RejectedReportIsCounted : Prop :=
  ∀ (h : HeadIx) (s : State),
    let rejected (w : Word) : State :=
      let t := captureFault
        { kind := .reportError, head := some h, socket := none, slot := some (w.extractLsb' 24 4).toFin, detail := 0 }
        { s with
          lastGrant := .drive, dcm := dcmWrite s.dcm (0x100 + h) w
          counters := s.counters.set h { s.counters[h] with reportErrors := oneMore s.counters[h].reportErrors } }
      if s.heads[h].online then
        { t with heads := s.heads.set h { s.heads[h] with causes := s.heads[h].causes ||| 0x10 } } else t
    (∀ w : Word, (w.extractLsb' 30 2 = 0 ∨ w.extractLsb' 30 2 = 3) →
      exec (.malformedReport h w) s = .next (rejected w)) ∧
    ∀ body : BitVec 30,
      ¬ (headState s h = .moving ∧ (body.extractLsb' 24 4).toNat = s.fetchIndex[h].val ∧
        (body.extractLsb' 20 3).toNat = (s.orderAt h).completed) →
      exec (.legDone h body) s = .next (rejected (1#2 ++ body)) ∧
      exec (.legFailed h body) s = .next (rejected (2#2 ++ body))

/-! ### Line Monitor and timers (R75, R118 to R122, R139 to R150) -/

/-- TICK: every event still due from the last tick is taken first, each as its own row takes it, in some order (the model's
choice, log 3, log 4); then every line is sampled and filtered, every running timer counts one tick, and the divider count
returns to 0 (R75, R118, R120, R139, R140, R144). -/
def Obligations.TickSamplesAndCounts : Prop :=
  ∀ (p : BitVec 16) (g : BitVec 8) (s : State), ∃ u, DueTaken s u ∧
    let sampled (f : LineFilter) (raw : Bool) (f' : LineFilter) : Prop :=
      f'.raw = raw ∧ f'.filtered = f.filtered ∧
      (raw = f.filtered → f'.run = 0 ∧ f'.changeDue = false) ∧
      (raw ≠ f.filtered → f'.run.toNat = min 15 (f.run.toNat + 1) ∧
        (f'.changeDue = true ↔ u.debounceInForce.toNat ≤ f'.run.toNat))
    let counted (x x' : Sensor) : Prop := x' = match x with
      | .quiet => .quiet
      | .disturbed n => .disturbed (n - 1)
      | .recovering n => .recovering (n - 1)
    ∃ t, exec (.tick p g) s = .next t ∧
      t = { u with
        dividerCount := 0, presence := t.presence, grips := t.grips, sockets := t.sockets, nozzles := t.nozzles
        holdTimers := t.holdTimers } ∧
      (∀ i : SocketIx, sampled u.presence[i] (p.getLsbD i) t.presence[i]) ∧
      (∀ h : HeadIx, sampled u.grips[h].a (g.getLsbD (2 * h)) t.grips[h].a ∧
        sampled u.grips[h].b (g.getLsbD (2 * h + 1)) t.grips[h].b) ∧
      (∀ i : SocketIx, counted u.sockets[i].sensor t.sockets[i].sensor ∧
        t.sockets[i].reservation = u.sockets[i].reservation ∧ t.sockets[i].lastResult = u.sockets[i].lastResult ∧
        t.sockets[i].phase = match u.sockets[i].phase with
          | .seating v h n => .seating v h (n - 1)
          | .vacating h n => .vacating h (n - 1)
          | x => x) ∧
      (∀ h n, counted (u.nozzle h n).sensor (t.nozzle h n).sensor ∧ (t.nozzle h n).content = (u.nozzle h n).content) ∧
      (∀ h : HeadIx, t.holdTimers[h] = match u.holdTimers[h] with
        | .running n => .running (n - 1)
        | x => x)

/-- FILTERED_LEVEL_CHANGE, due: the level becomes the sampled one and the run count 0; a SEATING socket seen is LOADED, a
VACATING one seen clear is EMPTY; a watched line that comes to disagree is DISTURBED with its timer in full and charged
open to the head concerned, and a DISTURBED one that agrees again is RECOVERING (R118, R120, R140, R146 to R148). -/
def Obligations.LevelChangeTaken : Prop :=
  ∀ (l : Line) (s : State), (s.filter l).changeDue = true →
    let new := (s.filter l).raw
    ∃ t, exec (.filteredLevelChange l) s = .next t ∧
      t = { s with
        presence := t.presence, grips := t.grips, sockets := t.sockets, nozzles := t.nozzles, heads := t.heads } ∧
      (∀ m, t.filter m = if m = l then { raw := new, filtered := new, run := 0, changeDue := false } else s.filter m) ∧
      (∀ m, m ≠ l → t.sensor m = s.sensor m) ∧
      (∀ h n, (t.nozzle h n).content = (s.nozzle h n).content) ∧
      (∀ i : SocketIx, t.sockets[i].reservation = s.sockets[i].reservation ∧
        t.sockets[i].lastResult = s.sockets[i].lastResult ∧
        t.sockets[i].phase =
          if l = .presence i then
            match s.sockets[i].phase, new with
            | .seating u _ _, true => .loaded u
            | .vacating _ _, false => .empty
            | x, _ => x
          else s.sockets[i].phase) ∧
      (∀ e, watchedLevel s l = some e →
        (new ≠ e → (s.sensor l).isDisturbed = false →
          t.sensor l = .disturbed s.limits.disturb.toNat ∧
          ∀ g : HeadIx, t.heads[g] = if headConcerned s l = some g then s.heads[g].chargedOpen l else s.heads[g]) ∧
        (new = e → (s.sensor l).isDisturbed = true →
          t.sensor l = .recovering (10 * s.limits.recover.toNat) ∧ t.heads = s.heads) ∧
        ((new = e ↔ (s.sensor l).isDisturbed = false) → t.sensor l = s.sensor l ∧ t.heads = s.heads)) ∧
      (watchedLevel s l = none → t.sensor l = .quiet) ∧
      (∀ g : HeadIx, t.heads[g].online = s.heads[g].online ∧ t.heads[g].faulted = s.heads[g].faulted ∧
        t.heads[g].resting = s.heads[g].resting ∧
        ∀ n : Nat, 0 < n → t.heads[g].causes.getLsbD n = s.heads[g].causes.getLsbD n)

/-- HOLD_TIMER_EXPIRY, SEAT_WINDOW_EXPIRY, VACATE_WINDOW_EXPIRY and RECOVER_COUNTDOWN_EXPIRY, due (R75, R119, R121, R149). -/
def Obligations.TimersExpire : Prop :=
  (∀ (h : HeadIx) (s : State), s.holdTimers[h] = .running 0 → (s.orderAt h).state.held = true →
    exec (.holdTimerExpiry h) s = .next ((listsLeft s h).setOrder h s.fetchIndex[h]
      { s.orderAt h with state := .refused .timeout, blocker := none, skipGiven := false })) ∧
  (∀ (i : SocketIx) (u : UnitRec) (h : HeadIx) (s : State), s.sockets[i].phase = .seating u h 0 →
    exec (.seatWindowExpiry i) s = .next
      (captureFault { kind := .seat, head := some h, socket := some i, slot := none, detail := 0 }
        (let t := changePhase i (.fault .seat (some u)) s
        if s.heads[h].online then
          { t with heads := t.heads.set h { t.heads[h] with causes := t.heads[h].causes ||| 8 } } else t))) ∧
  (∀ (i : SocketIx) (h : HeadIx) (s : State), s.sockets[i].phase = .vacating h 0 →
    exec (.vacateWindowExpiry i) s = .next
      (captureFault { kind := .stuck, head := some h, socket := some i, slot := none, detail := 0 }
        (let t := changePhase i (.fault .stuck none) s
        if s.heads[h].online then
          { t with heads := t.heads.set h { t.heads[h] with causes := t.heads[h].causes ||| 4 } } else t))) ∧
  (∀ (l : Line) (s : State), watchedLevel s l ≠ none → s.sensor l = .recovering 0 →
    ∃ t, exec (.recoverCountdownExpiry l) s = .next t ∧
      t = { s with sockets := t.sockets, nozzles := t.nozzles, heads := t.heads } ∧
      t.sensor l = .quiet ∧ (∀ m, m ≠ l → t.sensor m = s.sensor m) ∧
      (∀ i : SocketIx, t.sockets[i].phase = s.sockets[i].phase ∧ t.sockets[i].reservation = s.sockets[i].reservation ∧
        t.sockets[i].lastResult = s.sockets[i].lastResult) ∧
      (∀ h n, (t.nozzle h n).content = (s.nozzle h n).content) ∧
      ∀ h : HeadIx, t.heads[h] = if lineConcerns l h then s.heads[h].withoutOpen l else s.heads[h])

/-- DISTURBANCE_TIMER_EXPIRY, due: open entries become faulted, the head concerned is charged as faulted, the owner goes to
FAULT or SUSPECT with its unit, the line goes QUIET, and the fault is captured (R122, R150). -/
def Obligations.DisturbanceFaultsOwner : Prop :=
  ∀ (l : Line) (s : State), watchedLevel s l ≠ none → s.sensor l = .disturbed 0 →
    ∃ t, exec (.disturbanceTimerExpiry l) s = .next t ∧
      t = { s with
        sockets := t.sockets, nozzles := t.nozzles, heads := t.heads
        capture := t.capture, overflow := t.overflow, headsSeen := t.headsSeen } ∧
      t.sensor l = .quiet ∧ (∀ m, m ≠ l → t.sensor m = s.sensor m) ∧
      (∀ g : HeadIx, t.heads[g] =
        if headConcerned s l = some g then s.heads[g].chargedFaulted l
        else if lineConcerns l g then s.heads[g].openFaulted l else s.heads[g]) ∧
      (∀ i : SocketIx, t.sockets[i].reservation = s.sockets[i].reservation ∧
        t.sockets[i].lastResult = s.sockets[i].lastResult ∧
        t.sockets[i].phase =
          if l = .presence i then
            match s.sockets[i].phase.unit with
            | some u => .fault .lostDevice (some u)
            | none => .fault .stray none
          else s.sockets[i].phase) ∧
      (∀ h n, (t.nozzle h n).content =
        if l = .grip h n then .suspect (s.nozzle h n).content.unit else (s.nozzle h n).content) ∧
      let u := captureFault
        (match l with
          | .presence i => { kind := if s.sockets[i].phase.unit.isSome then .lostDevice else .stray
                             head := headConcerned s l, socket := some i, slot := none, detail := 0 }
          | .grip h n => { kind := if (s.nozzle h n).content.unit.isSome then .drop else .stray
                           head := some h, socket := none, slot := none, detail := 0 }) s
      t.capture = u.capture ∧ t.overflow = u.overflow ∧ t.headsSeen = u.headsSeen

/-! ### Words formed and taken (11_word_formats) -/

/-- The fields of the words the part takes stand where Word Formats puts them (11.1, 11.3 to 11.5), and the codes of its
tables are theirs (11.1 to 11.6). -/
def Obligations.WordFieldsStandWhereGiven : Prop :=
  (∀ (more : Bool) (a : BitVec 2) (z sk : BitVec 4) (n : BitVec 2) (tag : Tag) (x : BitVec 1) (y : BitVec 2)
      (v : BitVec 4),
    let l := legOfWord (BitVec.ofBool more ++ x ++ a ++ z ++ sk ++ y ++ n ++ v ++ tag)
    l.more = more ∧ l.zone = z.toFin ∧ l.socket = sk.toFin ∧ l.tag = tag ∧
    (l.action = .travel ↔ a = 0) ∧ (l.action = .pick ↔ a = 1) ∧ (l.action = .place ↔ a = 2) ∧
    (l.nozzle = .a ↔ n = 0) ∧ (l.nozzle = .b ↔ n = 1) ∧ (l.nozzle = .active ↔ n = 2)) ∧
  (∀ (post nowait : Bool) (q : Seq) (x : BitVec 6) (y : BitVec 16),
    let w : Word := BitVec.ofBool post ++ BitVec.ofBool nowait ++ x ++ q ++ y
    headerPost w = post ∧ headerNowait w = nowait ∧ headerSeq w = q) ∧
  (∀ (c : BitVec 2) (k : BitVec 4) (j : BitVec 3) (code : BitVec 8) (x : BitVec 2) (y : BitVec 1) (v : BitVec 12),
    let w : Word := c ++ x ++ k ++ y ++ j ++ v ++ code
    (reportOutcome w = .legDone ↔ c = 1) ∧ (reportOutcome w = .legFailed ↔ c = 2) ∧
    reportSlot w = k.toFin ∧ reportLeg w = j.toNat ∧ reportDriveCode w = code) ∧
  (∀ (c : BitVec 8) (x h : BitVec 2) (z f : BitVec 4) (q : Seq) (y : BitVec 4),
    let w : Word := c ++ x ++ h ++ z ++ f ++ q ++ y
    ctlCode w = c ∧ ctlHead w = h.toFin ∧ ctlZone w = z.toFin ∧ ctlFetchSlot w = f.toFin ∧ ctlSeq w = q) ∧
  ([OrderState.free, .filling, .posted, .socketWait, .zoneWait, .cleared, .done].map OrderState.code =
      [0, 1, 2, 3, 4, 5, 6] ∧
    (∀ x, (OrderState.refused x).code = 7 ∧ (OrderState.refused x).reasonCode = x.code) ∧
    (∀ x, (OrderState.aborted x).code = 8 ∧ (OrderState.aborted x).reasonCode = x.code) ∧
    ∀ o : OrderState, o.code.toNat < 7 → o.reasonCode = 0) ∧
  [Reason.malformed, .sequence, .reach, .path, .socket, .nozzle, .dupTag, .bin, .retest, .deadlock, .timeout, .busy,
    .withdrawn, .offline, .drain].map Reason.code = [1, 2, 3, 4, 5, 6, 7, 8, 9, 10, 11, 12, 13, 14, 15] ∧
  [AbortCode.legFail, .mispick, .misplace, .stuck].map AbortCode.code = [1, 2, 3, 4] ∧
  (∀ (u : UnitRec) (h : HeadIx) (n : Nat) (r : FaultReason) (v : Option UnitRec),
    [Phase.disabled, .empty, .seating u h n, .loaded u, .testing u, .tested u, .vacating h n, .fault r v].map Phase.code =
      [0, 1, 2, 3, 4, 5, 6, 7] ∧
    [Phase.disabled, .empty, .seating u h n, .loaded u, .testing u, .tested u, .vacating h n, .fault r v].map
      Phase.reasonCode = [0, 0, 0, 0, 0, 0, 0, r.code]) ∧
  [FaultReason.seat, .stuck, .lostDevice, .stray, .legFail, .mispick, .misplace].map FaultReason.code =
    [1, 2, 3, 4, 5, 6, 7] ∧
  [SocketResult.accepted, .state, .mode, .busy, .notSeated, .stillPresent, .badCommand].map SocketResult.code =
    [0, 1, 2, 3, 4, 5, 6] ∧
  [ControlResult.accepted, .mode, .state, .zone, .occupied, .profile, .busy, .units, .badCommand].map ControlResult.code =
    [0, 1, 2, 3, 4, 5, 6, 7, 8] ∧
  [ProfileCode.accepted, .mode, .validation].map ProfileCode.code = [0, 1, 2] ∧
  [Page.zone, .socket, .head, .limits].map Page.number = [0, 1, 2, 3] ∧
  [FaultKind.seat, .stuck, .lostDevice, .stray, .drop, .mispick, .misplace, .legFail, .reportError, .protect, .fetchOrder,
    .sequence].map FaultKind.code = [1, 2, 3, 4, 5, 6, 7, 8, 9, 10, 11, 12]

/-- The words the controller reads show the records: the control result (R14), the profile result (R27) and the disposition
of a slot (R57), a socket's state word (R123) and unit word (R124), field by field; the last socket field of a unit without
one is the model's choice (log 20). Every other read passes, but for a drive's read of another ring's header, which returns
NONE, and the reads that are commands of the table (R4, R5, R8). -/
def Obligations.OverlayWordsShowRecords : Prop :=
  (∀ (a : Addr) (s : State),
    let n := a.toNat
    let note := 0x80 ≤ n ∧ n < 0xC0 ∧ (n % 4 = 0 ∨ n % 4 = 3)
    ((1 ≤ n ∧ n < 0x12) ∨ (0x14 ≤ n ∧ n < 0x40) ∨ note ∨ 0x100 ≤ n →
      busRead .controller a s = { s with lastGrant := .controller, controllerData := dcmRead s.dcm n }) ∧
    (n < 0x40 ∨ note ∨ (0x100 ≤ n ∧ n < 0x200) ∨ (0x200 ≤ n ∧ n < 0x400 ∧ n % 8 ≠ 0) ∨ 0x400 ≤ n →
      ∀ h, busRead (.drive h) a s = returned s (dcmRead s.dcm n))) ∧
  (∀ (s : State) (h g : HeadIx) (k : SlotIx),
    let a : Addr := BitVec.ofNat 14 (0x200 + 128 * g + 8 * k)
    (g ≠ h → busRead (.drive h) a s = returned s 0) ∧ (g = h → exec (.fetch h k) s = .next (busRead (.drive h) a s)) ∧
    exec .profileDataRead s = .next (busRead .controller 0x12 s) ∧
    exec .statusWord0Read s = .next (busRead .controller 0x40 s)) ∧
  ∀ (s : State) (h : HeadIx) (k : SlotIx) (i : SocketIx),
    (let w := controlResultWord s
    busRead .controller 0 s = { s with lastGrant := .controller, controllerData := w } ∧
    w.extractLsb' 24 8 = s.controlCode ∧ w.extractLsb' 4 20 = 0 ∧ w.extractLsb' 0 4 = s.controlResult.code) ∧
    (let w := profileResultWord s
    busRead .controller 0x13 s = { s with lastGrant := .controller, controllerData := w } ∧
    w.getLsbD 31 = s.counter.overrun ∧ w.extractLsb' 24 4 = s.profileResult.code.code ∧
    w.extractLsb' 20 2 = s.profileResult.page.number ∧ (w.extractLsb' 16 4).toNat = s.profileResult.entry.val ∧
    w.extractLsb' 0 8 = s.profileResult.check) ∧
    (let o := s.order h k
    let w := dispositionWord o
    let a : Addr := BitVec.ofNat 14 (0xC0 + 16 * h + k)
    busRead .controller a s = { s with lastGrant := .controller, controllerData := w } ∧
    (∀ g, busRead (.drive g) a s = returned s w) ∧
    w.extractLsb' 28 4 = o.state.code ∧ w.extractLsb' 24 4 = o.state.reasonCode ∧
    (o.completed < 8 → (w.extractLsb' 20 3).toNat = o.completed) ∧
    w.getLsbD 18 = o.resolved.isSome ∧ w.getLsbD 17 = (o.resolved == some .b) ∧
    w.extractLsb' 8 8 = o.seq.getD 0 ∧ w.getLsbD 4 = o.blocker.isSome ∧
    (w.extractLsb' 0 2).toNat = (o.blocker.getD 0).val) ∧
    let x := s.sockets[i]
    let w := socketStateWord s i
    let v := socketUnitWord s i
    (∀ h, busRead (.drive h) (BitVec.ofNat 14 (0x81 + 4 * i)) s = returned s w ∧
      busRead (.drive h) (BitVec.ofNat 14 (0x82 + 4 * i)) s = returned s v) ∧
    busRead .controller (BitVec.ofNat 14 (0x81 + 4 * i)) s =
      { s with lastGrant := .controller, controllerData := w } ∧
    busRead .controller (BitVec.ofNat 14 (0x82 + 4 * i)) s =
      { s with lastGrant := .controller, controllerData := v } ∧
    w.extractLsb' 28 4 = x.phase.code ∧ w.getLsbD 27 = x.sensor.isDisturbed ∧ w.getLsbD 26 = x.sensor.isRecovering ∧
    w.getLsbD 25 = x.reservation.isSome ∧
    (∀ h k, x.reservation = some (h, k) →
      (w.extractLsb' 23 2).toNat = h.val ∧ (w.extractLsb' 19 4).toNat = k.val) ∧
    w.extractLsb' 16 3 = x.phase.reasonCode ∧ w.extractLsb' 12 4 = x.lastResult.code ∧
    (s.socketWaiters[i].length < 8 → (w.extractLsb' 8 3).toNat = s.socketWaiters[i].length) ∧
    w.getLsbD 7 = s.level (.presence i) ∧
    (x.phase.unit = none → v = 0) ∧
    (∀ u, x.phase.unit = some u → v.getLsbD 31 = true ∧ v.extractLsb' 16 12 = u.tag ∧
      v.extractLsb' 12 2 = u.insertions ∧ v.getLsbD 7 = u.lastSocket.isSome ∧
      (v.extractLsb' 8 4).toNat = (u.lastSocket.getD 0).val ∧
      (v.extractLsb' 0 4).toNat = match u.result with
        | some (.cls c) => c.val
        | some .retest => 8
        | none => 15)

/-! ### What every step keeps -/

/-- Every step keeps the memory's canonical form. -/
def Obligations.MemoryStaysCanonical : Prop :=
  ∀ s t : State, MemoryCanonical s → step s = .next t → MemoryCanonical t

/-- Every step keeps the orders sound: SETUP still, with no order live, no zone held, no socket in use and no head on the
deck (R28, R44); each head's one held or CLEARED order at its fetch index, and none for an OFFLINE or FAULTED head (R62,
R154); every live order one that passes the static checks on the profile as it stands, with its legs counted (R37, R38,
R49, R51). -/
def Obligations.OrdersStaySound : Prop :=
  ∀ s t : State, OrdersSound s → step s = .next t → OrdersSound t

/-- Every step keeps the wait lists: each head once, and only heads whose order is held (R69). -/
def Obligations.WaitListsStayInOrder : Prop :=
  ∀ s t : State, OrdersSound s → ListsInOrder s → step s = .next t → ListsInOrder t

/-- Every step keeps the heads apart: a head holds its resting zone and every zone its CLEARED order has left, and a zone
has one holder (R68, R78, R153). -/
def Obligations.HeadsKeepTheirZones : Prop :=
  ∀ s t : State, OrdersSound s → ZonesClaimed s → step s = .next t → ZonesClaimed t

/-- Every step keeps the reservations: a socket is reserved to just the CLEARED order that has a leg left naming it
(R106). -/
def Obligations.ReservationsFollowOrders : Prop :=
  ∀ s t : State, OrdersSound s → SocketsReserved s → step s = .next t → SocketsReserved t

/-- Every step keeps unit tags apart: no two units on the deck have one tag, and no pending tag is a unit's (R125, R131,
R132). -/
def Obligations.TagsStayUnique : Prop :=
  ∀ s t : State, OrdersSound s → TagsUnique s → step s = .next t → TagsUnique t

/-- Every step keeps the account of units: PICKED is DELIVERED, DISCARDED and the units carried (R135), and an OFFLINE
head's nozzles EMPTY (R101). -/
def Obligations.TalliesStayBalanced : Prop :=
  ∀ s t : State, OrdersSound s → OfflineEmpty s → TalliesBalance s → step s = .next t →
    OfflineEmpty t ∧ TalliesBalance t

/-- Every step keeps results with socket states: none in SEATING, LOADED and TESTING, one in TESTED (R103, R128). -/
def Obligations.ResultsFollowSocketStates : Prop :=
  ∀ s t : State, ResultsFollowStates s → step s = .next t → ResultsFollowStates t

/-- Every step keeps each line's sub-state in step with its comparison (R142, R143, R146 to R148). -/
def Obligations.LinesFollowTheirComparison : Prop :=
  ∀ s t : State, OrdersSound s → LinesFollow s → step s = .next t → LinesFollow t

/-- Every step keeps the cause STRAY with the stray source set, and an OFFLINE head without a cause (R145, R153, R159). -/
def Obligations.StrayFollowsItsSet : Prop :=
  ∀ s t : State, OrdersSound s → ZonesClaimed s → StrayFollowsSet s → step s = .next t → StrayFollowsSet t

/-- Every step keeps at most one valid capture entry for a kind (R173). -/
def Obligations.CaptureKindsStayDistinct : Prop :=
  ∀ s t : State, KindsCapturedOnce s → step s = .next t → KindsCapturedOnce t

/-- Every step keeps the wait-for relation among the heads without a cycle (R73). That in this relation a head not in a list
has every head of the list before it is the model's reading of R73 (log 10). -/
def Obligations.WaitForStaysAcyclic : Prop :=
  ∀ s t : State, OrdersSound s → NoWaitCycle s → step s = .next t → NoWaitCycle t

/-! ### Status words (11.6; R82, R125, R138, R154, R160, R167, R170 to R172, R175, R177) -/

/-- The 64 status words of a snapshot show the records, field by field at the places of 11.6, and the flags they show and the
ALERT line are those of R82, R138 and R177. Fields that show something absent are stated only where the spec gives them
(log 20). -/
def Obligations.StatusWordsShowRecords : Prop :=
  ∀ s : State,
    let w (n : Nat) : Word := (formSnapshot s)[n]?.getD 0
    ((w 0).getLsbD 31 = (s.mode == .run) ∧ (w 0).getLsbD 30 = s.drain ∧ (w 0).getLsbD 29 = drained s ∧
      (w 0).getLsbD 28 = alert s ∧ (w 0).getLsbD 27 = s.overflow ∧ (w 0).extractLsb' 20 7 = 0 ∧
      (w 0).extractLsb' 16 4 = s.headsSeen ∧ (w 0).extractLsb' 5 11 = 0 ∧
      ((w 0).extractLsb' 0 5).toNat = (allCarriers.filter (fun c => (unitAt s c).isSome)).length) ∧
    (alert s = true ↔ (s.limits.captureAlert = true ∧ ∃ i : Fin 4, s.capture[i] ≠ none) ∨
      (s.limits.yieldAlert = true ∧ ∃ h, yieldFlag s h = true)) ∧
    (OrdersInPlace s →
      (drained s = true ↔ s.drain = true ∧ (∀ c, unitAt s c = none) ∧ ∀ h k, (s.order h k).state ≠ .cleared) ∧
      ∀ y : HeadIx, yieldFlag s y = true ↔ s.heads[y].online = true ∧ s.heads[y].faulted = false ∧
        (∀ k, (s.order y k).state.active = false) ∧
        ∃ x k, x ≠ y ∧ (s.order x k).state.held = true ∧
          ∃ z ∈ neededZones s x (s.order x k).chain, s.zones[z].holder = some y) ∧
    (∀ h : HeadIx,
      let r := s.heads[h]
      let v := w (1 + h)
      let c := s.counters[h]
      let cw := w (5 + h)
      (v.extractLsb' 29 3 = if r.online = false then 0 else if r.faulted = true then 4
        else if (s.orderAt h).state = .cleared then 3 else if (s.orderAt h).state.held = true then 2 else 1) ∧
      v.getLsbD 28 = r.resting.isSome ∧ (∀ z, r.resting = some z → (v.extractLsb' 24 4).toNat = z.val) ∧
      (v.extractLsb' 20 4).toNat = s.fetchIndex[h].val ∧ v.extractLsb' 12 8 = s.expectedSeq[h] ∧
      v.extractLsb' 6 6 = r.causes ∧
      (r.causes ≠ 0 → (v.getLsbD 5 = true ↔
        ∃ n : Fin 6, r.causes.getLsbD n = true ∧ s.headPage[h].actions.getLsbD n = true)) ∧
      v.getLsbD 4 = (s.pointers[h] == .b) ∧ v.getLsbD 3 = yieldFlag s h ∧ v.getLsbD 2 = c.live ∧
      v.getLsbD 1 = c.sticky ∧ v.getLsbD 0 = false ∧
      cw.extractLsb' 24 8 = c.sequenceErrors ∧ cw.extractLsb' 16 8 = c.protect ∧ cw.extractLsb' 8 8 = c.fetchOrder ∧
      cw.extractLsb' 0 8 = c.reportErrors) ∧
    ((w 9).extractLsb' 24 8 = s.controllerProtect ∧ (w 9).extractLsb' 16 8 = s.profileRefused ∧
      (w 9).extractLsb' 0 16 = 0) ∧
    (∀ i : Fin 4,
      let a := w (10 + 2 * i)
      let b := w (11 + 2 * i)
      (s.capture[i] = none → a = 0 ∧ b = 0) ∧
      ∀ e, s.capture[i] = some e →
        a.getLsbD 31 = true ∧ a.extractLsb' 27 4 = e.report.kind.code ∧ a.getLsbD 26 = e.report.head.isSome ∧
        (∀ h, e.report.head = some h → (a.extractLsb' 24 2).toNat = h.val) ∧
        a.getLsbD 23 = e.report.socket.isSome ∧
        (∀ j, e.report.socket = some j → (a.extractLsb' 19 4).toNat = j.val) ∧
        a.getLsbD 18 = e.report.slot.isSome ∧
        (∀ k, e.report.slot = some k → (a.extractLsb' 14 4).toNat = k.val) ∧ a.extractLsb' 0 14 = 0 ∧
        b.extractLsb' 16 16 = 0 ∧ b.extractLsb' 8 8 = e.report.detail ∧ b.extractLsb' 0 8 = e.repeats) ∧
    (∀ z : ZoneIx,
      let r := s.zones[z]
      let v := w (18 + z)
      v.getLsbD 31 = r.holder.isSome ∧ (∀ h, r.holder = some h → (v.extractLsb' 28 2).toNat = h.val) ∧
      v.getLsbD 30 = false ∧ v.getLsbD 27 = false ∧ v.extractLsb' 8 16 = 0 ∧
      (r.waiters.length ≤ 4 → (v.extractLsb' 24 3).toNat = r.waiters.length) ∧
      ∀ j : Fin 4, (v.extractLsb' (6 - 2 * j) 2).toNat = (r.waiters[j.val]?.getD 0).val) ∧
    (∀ (h : HeadIx) (n : NozzleId),
      let x := s.nozzle h n
      let v := w (34 + 2 * h + (if n = .a then 0 else 1))
      (v.extractLsb' 30 2 = match x.content with
        | .empty => 0
        | .holding _ => 1
        | .suspect _ => 2) ∧
      v.getLsbD 29 = x.content.unit.isSome ∧ v.getLsbD 28 = false ∧
      (x.content.unit = none → v.extractLsb' 16 12 = 0) ∧
      (∀ u, x.content.unit = some u → v.extractLsb' 16 12 = u.tag) ∧ v.extractLsb' 10 6 = 0 ∧
      (v.extractLsb' 8 2 = match x.sensor with
        | .quiet => 0
        | .disturbed _ => 1
        | .recovering _ => 2) ∧
      v.getLsbD 7 = s.level (.grip h n) ∧ v.extractLsb' 0 7 = 0) ∧
    w 42 = s.picked ∧ w 43 = s.discarded ∧ (∀ c : ClassIx, w (44 + c) = s.delivered[c]) ∧
    ∀ n, 52 ≤ n → n < 64 → w n = 0

end
end

