-- ==== Sys2Proof/Laws/State.lean ====
section
/-! SUPPORT. One lemma for each field of each setter of the state, and what setting one record leaves of the others. -/

namespace Sys2Proof.Machine

variable (s : State)

/-! ### setOrder -/

section

variable (h : HeadIx) (k : SlotIx) (o : Order)

@[simp] theorem State.setOrder_pending : (s.setOrder h k o).pending = s.pending := rfl
@[simp] theorem State.setOrder_lastGrant : (s.setOrder h k o).lastGrant = s.lastGrant := rfl
@[simp] theorem State.setOrder_controlCode : (s.setOrder h k o).controlCode = s.controlCode := rfl
@[simp] theorem State.setOrder_controlResult : (s.setOrder h k o).controlResult = s.controlResult := rfl
@[simp] theorem State.setOrder_controllerData : (s.setOrder h k o).controllerData = s.controllerData := rfl
@[simp] theorem State.setOrder_driveData : (s.setOrder h k o).driveData = s.driveData := rfl
@[simp] theorem State.setOrder_dcm : (s.setOrder h k o).dcm = s.dcm := rfl
@[simp] theorem State.setOrder_mode : (s.setOrder h k o).mode = s.mode := rfl
@[simp] theorem State.setOrder_zonePage : (s.setOrder h k o).zonePage = s.zonePage := rfl
@[simp] theorem State.setOrder_socketPage : (s.setOrder h k o).socketPage = s.socketPage := rfl
@[simp] theorem State.setOrder_headPage : (s.setOrder h k o).headPage = s.headPage := rfl
@[simp] theorem State.setOrder_limits : (s.setOrder h k o).limits = s.limits := rfl
@[simp] theorem State.setOrder_counter : (s.setOrder h k o).counter = s.counter := rfl
@[simp] theorem State.setOrder_profileResult : (s.setOrder h k o).profileResult = s.profileResult := rfl
@[simp] theorem State.setOrder_divisorInForce : (s.setOrder h k o).divisorInForce = s.divisorInForce := rfl
@[simp] theorem State.setOrder_debounceInForce : (s.setOrder h k o).debounceInForce = s.debounceInForce := rfl
@[simp] theorem State.setOrder_slots : (s.setOrder h k o).slots = s.slots.set h (s.slots[h].set k o) := rfl
@[simp] theorem State.setOrder_fetchIndex : (s.setOrder h k o).fetchIndex = s.fetchIndex := rfl
@[simp] theorem State.setOrder_expectedSeq : (s.setOrder h k o).expectedSeq = s.expectedSeq := rfl
@[simp] theorem State.setOrder_zones : (s.setOrder h k o).zones = s.zones := rfl
@[simp] theorem State.setOrder_socketWaiters : (s.setOrder h k o).socketWaiters = s.socketWaiters := rfl
@[simp] theorem State.setOrder_holdTimers : (s.setOrder h k o).holdTimers = s.holdTimers := rfl
@[simp] theorem State.setOrder_nozzles : (s.setOrder h k o).nozzles = s.nozzles := rfl
@[simp] theorem State.setOrder_pointers : (s.setOrder h k o).pointers = s.pointers := rfl
@[simp] theorem State.setOrder_sockets : (s.setOrder h k o).sockets = s.sockets := rfl
@[simp] theorem State.setOrder_pendingTags : (s.setOrder h k o).pendingTags = s.pendingTags := rfl
@[simp] theorem State.setOrder_picked : (s.setOrder h k o).picked = s.picked := rfl
@[simp] theorem State.setOrder_discarded : (s.setOrder h k o).discarded = s.discarded := rfl
@[simp] theorem State.setOrder_delivered : (s.setOrder h k o).delivered = s.delivered := rfl
@[simp] theorem State.setOrder_drain : (s.setOrder h k o).drain = s.drain := rfl
@[simp] theorem State.setOrder_dividerCount : (s.setOrder h k o).dividerCount = s.dividerCount := rfl
@[simp] theorem State.setOrder_presence : (s.setOrder h k o).presence = s.presence := rfl
@[simp] theorem State.setOrder_grips : (s.setOrder h k o).grips = s.grips := rfl
@[simp] theorem State.setOrder_heads : (s.setOrder h k o).heads = s.heads := rfl
@[simp] theorem State.setOrder_snapshot : (s.setOrder h k o).snapshot = s.snapshot := rfl
@[simp] theorem State.setOrder_capture : (s.setOrder h k o).capture = s.capture := rfl
@[simp] theorem State.setOrder_overflow : (s.setOrder h k o).overflow = s.overflow := rfl
@[simp] theorem State.setOrder_headsSeen : (s.setOrder h k o).headsSeen = s.headsSeen := rfl
@[simp] theorem State.setOrder_counters : (s.setOrder h k o).counters = s.counters := rfl
@[simp] theorem State.setOrder_controllerProtect : (s.setOrder h k o).controllerProtect = s.controllerProtect := rfl
@[simp] theorem State.setOrder_profileRefused : (s.setOrder h k o).profileRefused = s.profileRefused := rfl
@[simp] theorem State.setOrder_freeDraws : (s.setOrder h k o).freeDraws = s.freeDraws := rfl

end

/-! ### setZone -/

section

variable (z : ZoneIx) (r : ZoneRec)

@[simp] theorem State.setZone_pending : (s.setZone z r).pending = s.pending := rfl
@[simp] theorem State.setZone_lastGrant : (s.setZone z r).lastGrant = s.lastGrant := rfl
@[simp] theorem State.setZone_controlCode : (s.setZone z r).controlCode = s.controlCode := rfl
@[simp] theorem State.setZone_controlResult : (s.setZone z r).controlResult = s.controlResult := rfl
@[simp] theorem State.setZone_controllerData : (s.setZone z r).controllerData = s.controllerData := rfl
@[simp] theorem State.setZone_driveData : (s.setZone z r).driveData = s.driveData := rfl
@[simp] theorem State.setZone_dcm : (s.setZone z r).dcm = s.dcm := rfl
@[simp] theorem State.setZone_mode : (s.setZone z r).mode = s.mode := rfl
@[simp] theorem State.setZone_zonePage : (s.setZone z r).zonePage = s.zonePage := rfl
@[simp] theorem State.setZone_socketPage : (s.setZone z r).socketPage = s.socketPage := rfl
@[simp] theorem State.setZone_headPage : (s.setZone z r).headPage = s.headPage := rfl
@[simp] theorem State.setZone_limits : (s.setZone z r).limits = s.limits := rfl
@[simp] theorem State.setZone_counter : (s.setZone z r).counter = s.counter := rfl
@[simp] theorem State.setZone_profileResult : (s.setZone z r).profileResult = s.profileResult := rfl
@[simp] theorem State.setZone_divisorInForce : (s.setZone z r).divisorInForce = s.divisorInForce := rfl
@[simp] theorem State.setZone_debounceInForce : (s.setZone z r).debounceInForce = s.debounceInForce := rfl
@[simp] theorem State.setZone_slots : (s.setZone z r).slots = s.slots := rfl
@[simp] theorem State.setZone_fetchIndex : (s.setZone z r).fetchIndex = s.fetchIndex := rfl
@[simp] theorem State.setZone_expectedSeq : (s.setZone z r).expectedSeq = s.expectedSeq := rfl
@[simp] theorem State.setZone_zones : (s.setZone z r).zones = s.zones.set z r := rfl
@[simp] theorem State.setZone_socketWaiters : (s.setZone z r).socketWaiters = s.socketWaiters := rfl
@[simp] theorem State.setZone_holdTimers : (s.setZone z r).holdTimers = s.holdTimers := rfl
@[simp] theorem State.setZone_nozzles : (s.setZone z r).nozzles = s.nozzles := rfl
@[simp] theorem State.setZone_pointers : (s.setZone z r).pointers = s.pointers := rfl
@[simp] theorem State.setZone_sockets : (s.setZone z r).sockets = s.sockets := rfl
@[simp] theorem State.setZone_pendingTags : (s.setZone z r).pendingTags = s.pendingTags := rfl
@[simp] theorem State.setZone_picked : (s.setZone z r).picked = s.picked := rfl
@[simp] theorem State.setZone_discarded : (s.setZone z r).discarded = s.discarded := rfl
@[simp] theorem State.setZone_delivered : (s.setZone z r).delivered = s.delivered := rfl
@[simp] theorem State.setZone_drain : (s.setZone z r).drain = s.drain := rfl
@[simp] theorem State.setZone_dividerCount : (s.setZone z r).dividerCount = s.dividerCount := rfl
@[simp] theorem State.setZone_presence : (s.setZone z r).presence = s.presence := rfl
@[simp] theorem State.setZone_grips : (s.setZone z r).grips = s.grips := rfl
@[simp] theorem State.setZone_heads : (s.setZone z r).heads = s.heads := rfl
@[simp] theorem State.setZone_snapshot : (s.setZone z r).snapshot = s.snapshot := rfl
@[simp] theorem State.setZone_capture : (s.setZone z r).capture = s.capture := rfl
@[simp] theorem State.setZone_overflow : (s.setZone z r).overflow = s.overflow := rfl
@[simp] theorem State.setZone_headsSeen : (s.setZone z r).headsSeen = s.headsSeen := rfl
@[simp] theorem State.setZone_counters : (s.setZone z r).counters = s.counters := rfl
@[simp] theorem State.setZone_controllerProtect : (s.setZone z r).controllerProtect = s.controllerProtect := rfl
@[simp] theorem State.setZone_profileRefused : (s.setZone z r).profileRefused = s.profileRefused := rfl
@[simp] theorem State.setZone_freeDraws : (s.setZone z r).freeDraws = s.freeDraws := rfl

end

/-! ### setSocketWaiters -/

section

variable (i : SocketIx) (l : List HeadIx)

@[simp] theorem State.setSocketWaiters_pending : (s.setSocketWaiters i l).pending = s.pending := rfl
@[simp] theorem State.setSocketWaiters_lastGrant : (s.setSocketWaiters i l).lastGrant = s.lastGrant := rfl
@[simp] theorem State.setSocketWaiters_controlCode : (s.setSocketWaiters i l).controlCode = s.controlCode := rfl
@[simp] theorem State.setSocketWaiters_controlResult : (s.setSocketWaiters i l).controlResult = s.controlResult := rfl
@[simp] theorem State.setSocketWaiters_controllerData : (s.setSocketWaiters i l).controllerData = s.controllerData := rfl
@[simp] theorem State.setSocketWaiters_driveData : (s.setSocketWaiters i l).driveData = s.driveData := rfl
@[simp] theorem State.setSocketWaiters_dcm : (s.setSocketWaiters i l).dcm = s.dcm := rfl
@[simp] theorem State.setSocketWaiters_mode : (s.setSocketWaiters i l).mode = s.mode := rfl
@[simp] theorem State.setSocketWaiters_zonePage : (s.setSocketWaiters i l).zonePage = s.zonePage := rfl
@[simp] theorem State.setSocketWaiters_socketPage : (s.setSocketWaiters i l).socketPage = s.socketPage := rfl
@[simp] theorem State.setSocketWaiters_headPage : (s.setSocketWaiters i l).headPage = s.headPage := rfl
@[simp] theorem State.setSocketWaiters_limits : (s.setSocketWaiters i l).limits = s.limits := rfl
@[simp] theorem State.setSocketWaiters_counter : (s.setSocketWaiters i l).counter = s.counter := rfl
@[simp] theorem State.setSocketWaiters_profileResult : (s.setSocketWaiters i l).profileResult = s.profileResult := rfl
@[simp] theorem State.setSocketWaiters_divisorInForce : (s.setSocketWaiters i l).divisorInForce = s.divisorInForce := rfl
@[simp] theorem State.setSocketWaiters_debounceInForce : (s.setSocketWaiters i l).debounceInForce = s.debounceInForce := rfl
@[simp] theorem State.setSocketWaiters_slots : (s.setSocketWaiters i l).slots = s.slots := rfl
@[simp] theorem State.setSocketWaiters_fetchIndex : (s.setSocketWaiters i l).fetchIndex = s.fetchIndex := rfl
@[simp] theorem State.setSocketWaiters_expectedSeq : (s.setSocketWaiters i l).expectedSeq = s.expectedSeq := rfl
@[simp] theorem State.setSocketWaiters_zones : (s.setSocketWaiters i l).zones = s.zones := rfl
@[simp] theorem State.setSocketWaiters_socketWaiters : (s.setSocketWaiters i l).socketWaiters = s.socketWaiters.set i l := rfl
@[simp] theorem State.setSocketWaiters_holdTimers : (s.setSocketWaiters i l).holdTimers = s.holdTimers := rfl
@[simp] theorem State.setSocketWaiters_nozzles : (s.setSocketWaiters i l).nozzles = s.nozzles := rfl
@[simp] theorem State.setSocketWaiters_pointers : (s.setSocketWaiters i l).pointers = s.pointers := rfl
@[simp] theorem State.setSocketWaiters_sockets : (s.setSocketWaiters i l).sockets = s.sockets := rfl
@[simp] theorem State.setSocketWaiters_pendingTags : (s.setSocketWaiters i l).pendingTags = s.pendingTags := rfl
@[simp] theorem State.setSocketWaiters_picked : (s.setSocketWaiters i l).picked = s.picked := rfl
@[simp] theorem State.setSocketWaiters_discarded : (s.setSocketWaiters i l).discarded = s.discarded := rfl
@[simp] theorem State.setSocketWaiters_delivered : (s.setSocketWaiters i l).delivered = s.delivered := rfl
@[simp] theorem State.setSocketWaiters_drain : (s.setSocketWaiters i l).drain = s.drain := rfl
@[simp] theorem State.setSocketWaiters_dividerCount : (s.setSocketWaiters i l).dividerCount = s.dividerCount := rfl
@[simp] theorem State.setSocketWaiters_presence : (s.setSocketWaiters i l).presence = s.presence := rfl
@[simp] theorem State.setSocketWaiters_grips : (s.setSocketWaiters i l).grips = s.grips := rfl
@[simp] theorem State.setSocketWaiters_heads : (s.setSocketWaiters i l).heads = s.heads := rfl
@[simp] theorem State.setSocketWaiters_snapshot : (s.setSocketWaiters i l).snapshot = s.snapshot := rfl
@[simp] theorem State.setSocketWaiters_capture : (s.setSocketWaiters i l).capture = s.capture := rfl
@[simp] theorem State.setSocketWaiters_overflow : (s.setSocketWaiters i l).overflow = s.overflow := rfl
@[simp] theorem State.setSocketWaiters_headsSeen : (s.setSocketWaiters i l).headsSeen = s.headsSeen := rfl
@[simp] theorem State.setSocketWaiters_counters : (s.setSocketWaiters i l).counters = s.counters := rfl
@[simp] theorem State.setSocketWaiters_controllerProtect : (s.setSocketWaiters i l).controllerProtect = s.controllerProtect := rfl
@[simp] theorem State.setSocketWaiters_profileRefused : (s.setSocketWaiters i l).profileRefused = s.profileRefused := rfl
@[simp] theorem State.setSocketWaiters_freeDraws : (s.setSocketWaiters i l).freeDraws = s.freeDraws := rfl

end

/-! ### setHoldTimer -/

section

variable (h : HeadIx) (t : HoldTimer)

@[simp] theorem State.setHoldTimer_pending : (s.setHoldTimer h t).pending = s.pending := rfl
@[simp] theorem State.setHoldTimer_lastGrant : (s.setHoldTimer h t).lastGrant = s.lastGrant := rfl
@[simp] theorem State.setHoldTimer_controlCode : (s.setHoldTimer h t).controlCode = s.controlCode := rfl
@[simp] theorem State.setHoldTimer_controlResult : (s.setHoldTimer h t).controlResult = s.controlResult := rfl
@[simp] theorem State.setHoldTimer_controllerData : (s.setHoldTimer h t).controllerData = s.controllerData := rfl
@[simp] theorem State.setHoldTimer_driveData : (s.setHoldTimer h t).driveData = s.driveData := rfl
@[simp] theorem State.setHoldTimer_dcm : (s.setHoldTimer h t).dcm = s.dcm := rfl
@[simp] theorem State.setHoldTimer_mode : (s.setHoldTimer h t).mode = s.mode := rfl
@[simp] theorem State.setHoldTimer_zonePage : (s.setHoldTimer h t).zonePage = s.zonePage := rfl
@[simp] theorem State.setHoldTimer_socketPage : (s.setHoldTimer h t).socketPage = s.socketPage := rfl
@[simp] theorem State.setHoldTimer_headPage : (s.setHoldTimer h t).headPage = s.headPage := rfl
@[simp] theorem State.setHoldTimer_limits : (s.setHoldTimer h t).limits = s.limits := rfl
@[simp] theorem State.setHoldTimer_counter : (s.setHoldTimer h t).counter = s.counter := rfl
@[simp] theorem State.setHoldTimer_profileResult : (s.setHoldTimer h t).profileResult = s.profileResult := rfl
@[simp] theorem State.setHoldTimer_divisorInForce : (s.setHoldTimer h t).divisorInForce = s.divisorInForce := rfl
@[simp] theorem State.setHoldTimer_debounceInForce : (s.setHoldTimer h t).debounceInForce = s.debounceInForce := rfl
@[simp] theorem State.setHoldTimer_slots : (s.setHoldTimer h t).slots = s.slots := rfl
@[simp] theorem State.setHoldTimer_fetchIndex : (s.setHoldTimer h t).fetchIndex = s.fetchIndex := rfl
@[simp] theorem State.setHoldTimer_expectedSeq : (s.setHoldTimer h t).expectedSeq = s.expectedSeq := rfl
@[simp] theorem State.setHoldTimer_zones : (s.setHoldTimer h t).zones = s.zones := rfl
@[simp] theorem State.setHoldTimer_socketWaiters : (s.setHoldTimer h t).socketWaiters = s.socketWaiters := rfl
@[simp] theorem State.setHoldTimer_holdTimers : (s.setHoldTimer h t).holdTimers = s.holdTimers.set h t := rfl
@[simp] theorem State.setHoldTimer_nozzles : (s.setHoldTimer h t).nozzles = s.nozzles := rfl
@[simp] theorem State.setHoldTimer_pointers : (s.setHoldTimer h t).pointers = s.pointers := rfl
@[simp] theorem State.setHoldTimer_sockets : (s.setHoldTimer h t).sockets = s.sockets := rfl
@[simp] theorem State.setHoldTimer_pendingTags : (s.setHoldTimer h t).pendingTags = s.pendingTags := rfl
@[simp] theorem State.setHoldTimer_picked : (s.setHoldTimer h t).picked = s.picked := rfl
@[simp] theorem State.setHoldTimer_discarded : (s.setHoldTimer h t).discarded = s.discarded := rfl
@[simp] theorem State.setHoldTimer_delivered : (s.setHoldTimer h t).delivered = s.delivered := rfl
@[simp] theorem State.setHoldTimer_drain : (s.setHoldTimer h t).drain = s.drain := rfl
@[simp] theorem State.setHoldTimer_dividerCount : (s.setHoldTimer h t).dividerCount = s.dividerCount := rfl
@[simp] theorem State.setHoldTimer_presence : (s.setHoldTimer h t).presence = s.presence := rfl
@[simp] theorem State.setHoldTimer_grips : (s.setHoldTimer h t).grips = s.grips := rfl
@[simp] theorem State.setHoldTimer_heads : (s.setHoldTimer h t).heads = s.heads := rfl
@[simp] theorem State.setHoldTimer_snapshot : (s.setHoldTimer h t).snapshot = s.snapshot := rfl
@[simp] theorem State.setHoldTimer_capture : (s.setHoldTimer h t).capture = s.capture := rfl
@[simp] theorem State.setHoldTimer_overflow : (s.setHoldTimer h t).overflow = s.overflow := rfl
@[simp] theorem State.setHoldTimer_headsSeen : (s.setHoldTimer h t).headsSeen = s.headsSeen := rfl
@[simp] theorem State.setHoldTimer_counters : (s.setHoldTimer h t).counters = s.counters := rfl
@[simp] theorem State.setHoldTimer_controllerProtect : (s.setHoldTimer h t).controllerProtect = s.controllerProtect := rfl
@[simp] theorem State.setHoldTimer_profileRefused : (s.setHoldTimer h t).profileRefused = s.profileRefused := rfl
@[simp] theorem State.setHoldTimer_freeDraws : (s.setHoldTimer h t).freeDraws = s.freeDraws := rfl

end

/-! ### setFetchIndex -/

section

variable (h : HeadIx) (k : SlotIx)

@[simp] theorem State.setFetchIndex_pending : (s.setFetchIndex h k).pending = s.pending := rfl
@[simp] theorem State.setFetchIndex_lastGrant : (s.setFetchIndex h k).lastGrant = s.lastGrant := rfl
@[simp] theorem State.setFetchIndex_controlCode : (s.setFetchIndex h k).controlCode = s.controlCode := rfl
@[simp] theorem State.setFetchIndex_controlResult : (s.setFetchIndex h k).controlResult = s.controlResult := rfl
@[simp] theorem State.setFetchIndex_controllerData : (s.setFetchIndex h k).controllerData = s.controllerData := rfl
@[simp] theorem State.setFetchIndex_driveData : (s.setFetchIndex h k).driveData = s.driveData := rfl
@[simp] theorem State.setFetchIndex_dcm : (s.setFetchIndex h k).dcm = s.dcm := rfl
@[simp] theorem State.setFetchIndex_mode : (s.setFetchIndex h k).mode = s.mode := rfl
@[simp] theorem State.setFetchIndex_zonePage : (s.setFetchIndex h k).zonePage = s.zonePage := rfl
@[simp] theorem State.setFetchIndex_socketPage : (s.setFetchIndex h k).socketPage = s.socketPage := rfl
@[simp] theorem State.setFetchIndex_headPage : (s.setFetchIndex h k).headPage = s.headPage := rfl
@[simp] theorem State.setFetchIndex_limits : (s.setFetchIndex h k).limits = s.limits := rfl
@[simp] theorem State.setFetchIndex_counter : (s.setFetchIndex h k).counter = s.counter := rfl
@[simp] theorem State.setFetchIndex_profileResult : (s.setFetchIndex h k).profileResult = s.profileResult := rfl
@[simp] theorem State.setFetchIndex_divisorInForce : (s.setFetchIndex h k).divisorInForce = s.divisorInForce := rfl
@[simp] theorem State.setFetchIndex_debounceInForce : (s.setFetchIndex h k).debounceInForce = s.debounceInForce := rfl
@[simp] theorem State.setFetchIndex_slots : (s.setFetchIndex h k).slots = s.slots := rfl
@[simp] theorem State.setFetchIndex_fetchIndex : (s.setFetchIndex h k).fetchIndex = s.fetchIndex.set h k := rfl
@[simp] theorem State.setFetchIndex_expectedSeq : (s.setFetchIndex h k).expectedSeq = s.expectedSeq := rfl
@[simp] theorem State.setFetchIndex_zones : (s.setFetchIndex h k).zones = s.zones := rfl
@[simp] theorem State.setFetchIndex_socketWaiters : (s.setFetchIndex h k).socketWaiters = s.socketWaiters := rfl
@[simp] theorem State.setFetchIndex_holdTimers : (s.setFetchIndex h k).holdTimers = s.holdTimers := rfl
@[simp] theorem State.setFetchIndex_nozzles : (s.setFetchIndex h k).nozzles = s.nozzles := rfl
@[simp] theorem State.setFetchIndex_pointers : (s.setFetchIndex h k).pointers = s.pointers := rfl
@[simp] theorem State.setFetchIndex_sockets : (s.setFetchIndex h k).sockets = s.sockets := rfl
@[simp] theorem State.setFetchIndex_pendingTags : (s.setFetchIndex h k).pendingTags = s.pendingTags := rfl
@[simp] theorem State.setFetchIndex_picked : (s.setFetchIndex h k).picked = s.picked := rfl
@[simp] theorem State.setFetchIndex_discarded : (s.setFetchIndex h k).discarded = s.discarded := rfl
@[simp] theorem State.setFetchIndex_delivered : (s.setFetchIndex h k).delivered = s.delivered := rfl
@[simp] theorem State.setFetchIndex_drain : (s.setFetchIndex h k).drain = s.drain := rfl
@[simp] theorem State.setFetchIndex_dividerCount : (s.setFetchIndex h k).dividerCount = s.dividerCount := rfl
@[simp] theorem State.setFetchIndex_presence : (s.setFetchIndex h k).presence = s.presence := rfl
@[simp] theorem State.setFetchIndex_grips : (s.setFetchIndex h k).grips = s.grips := rfl
@[simp] theorem State.setFetchIndex_heads : (s.setFetchIndex h k).heads = s.heads := rfl
@[simp] theorem State.setFetchIndex_snapshot : (s.setFetchIndex h k).snapshot = s.snapshot := rfl
@[simp] theorem State.setFetchIndex_capture : (s.setFetchIndex h k).capture = s.capture := rfl
@[simp] theorem State.setFetchIndex_overflow : (s.setFetchIndex h k).overflow = s.overflow := rfl
@[simp] theorem State.setFetchIndex_headsSeen : (s.setFetchIndex h k).headsSeen = s.headsSeen := rfl
@[simp] theorem State.setFetchIndex_counters : (s.setFetchIndex h k).counters = s.counters := rfl
@[simp] theorem State.setFetchIndex_controllerProtect : (s.setFetchIndex h k).controllerProtect = s.controllerProtect := rfl
@[simp] theorem State.setFetchIndex_profileRefused : (s.setFetchIndex h k).profileRefused = s.profileRefused := rfl
@[simp] theorem State.setFetchIndex_freeDraws : (s.setFetchIndex h k).freeDraws = s.freeDraws := rfl

end

/-! ### setExpectedSeq -/

section

variable (h : HeadIx) (q : Seq)

@[simp] theorem State.setExpectedSeq_pending : (s.setExpectedSeq h q).pending = s.pending := rfl
@[simp] theorem State.setExpectedSeq_lastGrant : (s.setExpectedSeq h q).lastGrant = s.lastGrant := rfl
@[simp] theorem State.setExpectedSeq_controlCode : (s.setExpectedSeq h q).controlCode = s.controlCode := rfl
@[simp] theorem State.setExpectedSeq_controlResult : (s.setExpectedSeq h q).controlResult = s.controlResult := rfl
@[simp] theorem State.setExpectedSeq_controllerData : (s.setExpectedSeq h q).controllerData = s.controllerData := rfl
@[simp] theorem State.setExpectedSeq_driveData : (s.setExpectedSeq h q).driveData = s.driveData := rfl
@[simp] theorem State.setExpectedSeq_dcm : (s.setExpectedSeq h q).dcm = s.dcm := rfl
@[simp] theorem State.setExpectedSeq_mode : (s.setExpectedSeq h q).mode = s.mode := rfl
@[simp] theorem State.setExpectedSeq_zonePage : (s.setExpectedSeq h q).zonePage = s.zonePage := rfl
@[simp] theorem State.setExpectedSeq_socketPage : (s.setExpectedSeq h q).socketPage = s.socketPage := rfl
@[simp] theorem State.setExpectedSeq_headPage : (s.setExpectedSeq h q).headPage = s.headPage := rfl
@[simp] theorem State.setExpectedSeq_limits : (s.setExpectedSeq h q).limits = s.limits := rfl
@[simp] theorem State.setExpectedSeq_counter : (s.setExpectedSeq h q).counter = s.counter := rfl
@[simp] theorem State.setExpectedSeq_profileResult : (s.setExpectedSeq h q).profileResult = s.profileResult := rfl
@[simp] theorem State.setExpectedSeq_divisorInForce : (s.setExpectedSeq h q).divisorInForce = s.divisorInForce := rfl
@[simp] theorem State.setExpectedSeq_debounceInForce : (s.setExpectedSeq h q).debounceInForce = s.debounceInForce := rfl
@[simp] theorem State.setExpectedSeq_slots : (s.setExpectedSeq h q).slots = s.slots := rfl
@[simp] theorem State.setExpectedSeq_fetchIndex : (s.setExpectedSeq h q).fetchIndex = s.fetchIndex := rfl
@[simp] theorem State.setExpectedSeq_expectedSeq : (s.setExpectedSeq h q).expectedSeq = s.expectedSeq.set h q := rfl
@[simp] theorem State.setExpectedSeq_zones : (s.setExpectedSeq h q).zones = s.zones := rfl
@[simp] theorem State.setExpectedSeq_socketWaiters : (s.setExpectedSeq h q).socketWaiters = s.socketWaiters := rfl
@[simp] theorem State.setExpectedSeq_holdTimers : (s.setExpectedSeq h q).holdTimers = s.holdTimers := rfl
@[simp] theorem State.setExpectedSeq_nozzles : (s.setExpectedSeq h q).nozzles = s.nozzles := rfl
@[simp] theorem State.setExpectedSeq_pointers : (s.setExpectedSeq h q).pointers = s.pointers := rfl
@[simp] theorem State.setExpectedSeq_sockets : (s.setExpectedSeq h q).sockets = s.sockets := rfl
@[simp] theorem State.setExpectedSeq_pendingTags : (s.setExpectedSeq h q).pendingTags = s.pendingTags := rfl
@[simp] theorem State.setExpectedSeq_picked : (s.setExpectedSeq h q).picked = s.picked := rfl
@[simp] theorem State.setExpectedSeq_discarded : (s.setExpectedSeq h q).discarded = s.discarded := rfl
@[simp] theorem State.setExpectedSeq_delivered : (s.setExpectedSeq h q).delivered = s.delivered := rfl
@[simp] theorem State.setExpectedSeq_drain : (s.setExpectedSeq h q).drain = s.drain := rfl
@[simp] theorem State.setExpectedSeq_dividerCount : (s.setExpectedSeq h q).dividerCount = s.dividerCount := rfl
@[simp] theorem State.setExpectedSeq_presence : (s.setExpectedSeq h q).presence = s.presence := rfl
@[simp] theorem State.setExpectedSeq_grips : (s.setExpectedSeq h q).grips = s.grips := rfl
@[simp] theorem State.setExpectedSeq_heads : (s.setExpectedSeq h q).heads = s.heads := rfl
@[simp] theorem State.setExpectedSeq_snapshot : (s.setExpectedSeq h q).snapshot = s.snapshot := rfl
@[simp] theorem State.setExpectedSeq_capture : (s.setExpectedSeq h q).capture = s.capture := rfl
@[simp] theorem State.setExpectedSeq_overflow : (s.setExpectedSeq h q).overflow = s.overflow := rfl
@[simp] theorem State.setExpectedSeq_headsSeen : (s.setExpectedSeq h q).headsSeen = s.headsSeen := rfl
@[simp] theorem State.setExpectedSeq_counters : (s.setExpectedSeq h q).counters = s.counters := rfl
@[simp] theorem State.setExpectedSeq_controllerProtect : (s.setExpectedSeq h q).controllerProtect = s.controllerProtect := rfl
@[simp] theorem State.setExpectedSeq_profileRefused : (s.setExpectedSeq h q).profileRefused = s.profileRefused := rfl
@[simp] theorem State.setExpectedSeq_freeDraws : (s.setExpectedSeq h q).freeDraws = s.freeDraws := rfl

end

/-! ### setNozzle -/

section

variable (h : HeadIx) (n : NozzleId) (x : Nozzle)

@[simp] theorem State.setNozzle_pending : (s.setNozzle h n x).pending = s.pending := rfl
@[simp] theorem State.setNozzle_lastGrant : (s.setNozzle h n x).lastGrant = s.lastGrant := rfl
@[simp] theorem State.setNozzle_controlCode : (s.setNozzle h n x).controlCode = s.controlCode := rfl
@[simp] theorem State.setNozzle_controlResult : (s.setNozzle h n x).controlResult = s.controlResult := rfl
@[simp] theorem State.setNozzle_controllerData : (s.setNozzle h n x).controllerData = s.controllerData := rfl
@[simp] theorem State.setNozzle_driveData : (s.setNozzle h n x).driveData = s.driveData := rfl
@[simp] theorem State.setNozzle_dcm : (s.setNozzle h n x).dcm = s.dcm := rfl
@[simp] theorem State.setNozzle_mode : (s.setNozzle h n x).mode = s.mode := rfl
@[simp] theorem State.setNozzle_zonePage : (s.setNozzle h n x).zonePage = s.zonePage := rfl
@[simp] theorem State.setNozzle_socketPage : (s.setNozzle h n x).socketPage = s.socketPage := rfl
@[simp] theorem State.setNozzle_headPage : (s.setNozzle h n x).headPage = s.headPage := rfl
@[simp] theorem State.setNozzle_limits : (s.setNozzle h n x).limits = s.limits := rfl
@[simp] theorem State.setNozzle_counter : (s.setNozzle h n x).counter = s.counter := rfl
@[simp] theorem State.setNozzle_profileResult : (s.setNozzle h n x).profileResult = s.profileResult := rfl
@[simp] theorem State.setNozzle_divisorInForce : (s.setNozzle h n x).divisorInForce = s.divisorInForce := rfl
@[simp] theorem State.setNozzle_debounceInForce : (s.setNozzle h n x).debounceInForce = s.debounceInForce := rfl
@[simp] theorem State.setNozzle_slots : (s.setNozzle h n x).slots = s.slots := rfl
@[simp] theorem State.setNozzle_fetchIndex : (s.setNozzle h n x).fetchIndex = s.fetchIndex := rfl
@[simp] theorem State.setNozzle_expectedSeq : (s.setNozzle h n x).expectedSeq = s.expectedSeq := rfl
@[simp] theorem State.setNozzle_zones : (s.setNozzle h n x).zones = s.zones := rfl
@[simp] theorem State.setNozzle_socketWaiters : (s.setNozzle h n x).socketWaiters = s.socketWaiters := rfl
@[simp] theorem State.setNozzle_holdTimers : (s.setNozzle h n x).holdTimers = s.holdTimers := rfl
@[simp] theorem State.setNozzle_nozzles : (s.setNozzle h n x).nozzles = s.nozzles.set h (s.nozzles[h].set n x) := rfl
@[simp] theorem State.setNozzle_pointers : (s.setNozzle h n x).pointers = s.pointers := rfl
@[simp] theorem State.setNozzle_sockets : (s.setNozzle h n x).sockets = s.sockets := rfl
@[simp] theorem State.setNozzle_pendingTags : (s.setNozzle h n x).pendingTags = s.pendingTags := rfl
@[simp] theorem State.setNozzle_picked : (s.setNozzle h n x).picked = s.picked := rfl
@[simp] theorem State.setNozzle_discarded : (s.setNozzle h n x).discarded = s.discarded := rfl
@[simp] theorem State.setNozzle_delivered : (s.setNozzle h n x).delivered = s.delivered := rfl
@[simp] theorem State.setNozzle_drain : (s.setNozzle h n x).drain = s.drain := rfl
@[simp] theorem State.setNozzle_dividerCount : (s.setNozzle h n x).dividerCount = s.dividerCount := rfl
@[simp] theorem State.setNozzle_presence : (s.setNozzle h n x).presence = s.presence := rfl
@[simp] theorem State.setNozzle_grips : (s.setNozzle h n x).grips = s.grips := rfl
@[simp] theorem State.setNozzle_heads : (s.setNozzle h n x).heads = s.heads := rfl
@[simp] theorem State.setNozzle_snapshot : (s.setNozzle h n x).snapshot = s.snapshot := rfl
@[simp] theorem State.setNozzle_capture : (s.setNozzle h n x).capture = s.capture := rfl
@[simp] theorem State.setNozzle_overflow : (s.setNozzle h n x).overflow = s.overflow := rfl
@[simp] theorem State.setNozzle_headsSeen : (s.setNozzle h n x).headsSeen = s.headsSeen := rfl
@[simp] theorem State.setNozzle_counters : (s.setNozzle h n x).counters = s.counters := rfl
@[simp] theorem State.setNozzle_controllerProtect : (s.setNozzle h n x).controllerProtect = s.controllerProtect := rfl
@[simp] theorem State.setNozzle_profileRefused : (s.setNozzle h n x).profileRefused = s.profileRefused := rfl
@[simp] theorem State.setNozzle_freeDraws : (s.setNozzle h n x).freeDraws = s.freeDraws := rfl

end

/-! ### setPointer -/

section

variable (h : HeadIx) (n : NozzleId)

@[simp] theorem State.setPointer_pending : (s.setPointer h n).pending = s.pending := rfl
@[simp] theorem State.setPointer_lastGrant : (s.setPointer h n).lastGrant = s.lastGrant := rfl
@[simp] theorem State.setPointer_controlCode : (s.setPointer h n).controlCode = s.controlCode := rfl
@[simp] theorem State.setPointer_controlResult : (s.setPointer h n).controlResult = s.controlResult := rfl
@[simp] theorem State.setPointer_controllerData : (s.setPointer h n).controllerData = s.controllerData := rfl
@[simp] theorem State.setPointer_driveData : (s.setPointer h n).driveData = s.driveData := rfl
@[simp] theorem State.setPointer_dcm : (s.setPointer h n).dcm = s.dcm := rfl
@[simp] theorem State.setPointer_mode : (s.setPointer h n).mode = s.mode := rfl
@[simp] theorem State.setPointer_zonePage : (s.setPointer h n).zonePage = s.zonePage := rfl
@[simp] theorem State.setPointer_socketPage : (s.setPointer h n).socketPage = s.socketPage := rfl
@[simp] theorem State.setPointer_headPage : (s.setPointer h n).headPage = s.headPage := rfl
@[simp] theorem State.setPointer_limits : (s.setPointer h n).limits = s.limits := rfl
@[simp] theorem State.setPointer_counter : (s.setPointer h n).counter = s.counter := rfl
@[simp] theorem State.setPointer_profileResult : (s.setPointer h n).profileResult = s.profileResult := rfl
@[simp] theorem State.setPointer_divisorInForce : (s.setPointer h n).divisorInForce = s.divisorInForce := rfl
@[simp] theorem State.setPointer_debounceInForce : (s.setPointer h n).debounceInForce = s.debounceInForce := rfl
@[simp] theorem State.setPointer_slots : (s.setPointer h n).slots = s.slots := rfl
@[simp] theorem State.setPointer_fetchIndex : (s.setPointer h n).fetchIndex = s.fetchIndex := rfl
@[simp] theorem State.setPointer_expectedSeq : (s.setPointer h n).expectedSeq = s.expectedSeq := rfl
@[simp] theorem State.setPointer_zones : (s.setPointer h n).zones = s.zones := rfl
@[simp] theorem State.setPointer_socketWaiters : (s.setPointer h n).socketWaiters = s.socketWaiters := rfl
@[simp] theorem State.setPointer_holdTimers : (s.setPointer h n).holdTimers = s.holdTimers := rfl
@[simp] theorem State.setPointer_nozzles : (s.setPointer h n).nozzles = s.nozzles := rfl
@[simp] theorem State.setPointer_pointers : (s.setPointer h n).pointers = s.pointers.set h n := rfl
@[simp] theorem State.setPointer_sockets : (s.setPointer h n).sockets = s.sockets := rfl
@[simp] theorem State.setPointer_pendingTags : (s.setPointer h n).pendingTags = s.pendingTags := rfl
@[simp] theorem State.setPointer_picked : (s.setPointer h n).picked = s.picked := rfl
@[simp] theorem State.setPointer_discarded : (s.setPointer h n).discarded = s.discarded := rfl
@[simp] theorem State.setPointer_delivered : (s.setPointer h n).delivered = s.delivered := rfl
@[simp] theorem State.setPointer_drain : (s.setPointer h n).drain = s.drain := rfl
@[simp] theorem State.setPointer_dividerCount : (s.setPointer h n).dividerCount = s.dividerCount := rfl
@[simp] theorem State.setPointer_presence : (s.setPointer h n).presence = s.presence := rfl
@[simp] theorem State.setPointer_grips : (s.setPointer h n).grips = s.grips := rfl
@[simp] theorem State.setPointer_heads : (s.setPointer h n).heads = s.heads := rfl
@[simp] theorem State.setPointer_snapshot : (s.setPointer h n).snapshot = s.snapshot := rfl
@[simp] theorem State.setPointer_capture : (s.setPointer h n).capture = s.capture := rfl
@[simp] theorem State.setPointer_overflow : (s.setPointer h n).overflow = s.overflow := rfl
@[simp] theorem State.setPointer_headsSeen : (s.setPointer h n).headsSeen = s.headsSeen := rfl
@[simp] theorem State.setPointer_counters : (s.setPointer h n).counters = s.counters := rfl
@[simp] theorem State.setPointer_controllerProtect : (s.setPointer h n).controllerProtect = s.controllerProtect := rfl
@[simp] theorem State.setPointer_profileRefused : (s.setPointer h n).profileRefused = s.profileRefused := rfl
@[simp] theorem State.setPointer_freeDraws : (s.setPointer h n).freeDraws = s.freeDraws := rfl

end

/-! ### setSocket -/

section

variable (i : SocketIx) (x : Socket)

@[simp] theorem State.setSocket_pending : (s.setSocket i x).pending = s.pending := rfl
@[simp] theorem State.setSocket_lastGrant : (s.setSocket i x).lastGrant = s.lastGrant := rfl
@[simp] theorem State.setSocket_controlCode : (s.setSocket i x).controlCode = s.controlCode := rfl
@[simp] theorem State.setSocket_controlResult : (s.setSocket i x).controlResult = s.controlResult := rfl
@[simp] theorem State.setSocket_controllerData : (s.setSocket i x).controllerData = s.controllerData := rfl
@[simp] theorem State.setSocket_driveData : (s.setSocket i x).driveData = s.driveData := rfl
@[simp] theorem State.setSocket_dcm : (s.setSocket i x).dcm = s.dcm := rfl
@[simp] theorem State.setSocket_mode : (s.setSocket i x).mode = s.mode := rfl
@[simp] theorem State.setSocket_zonePage : (s.setSocket i x).zonePage = s.zonePage := rfl
@[simp] theorem State.setSocket_socketPage : (s.setSocket i x).socketPage = s.socketPage := rfl
@[simp] theorem State.setSocket_headPage : (s.setSocket i x).headPage = s.headPage := rfl
@[simp] theorem State.setSocket_limits : (s.setSocket i x).limits = s.limits := rfl
@[simp] theorem State.setSocket_counter : (s.setSocket i x).counter = s.counter := rfl
@[simp] theorem State.setSocket_profileResult : (s.setSocket i x).profileResult = s.profileResult := rfl
@[simp] theorem State.setSocket_divisorInForce : (s.setSocket i x).divisorInForce = s.divisorInForce := rfl
@[simp] theorem State.setSocket_debounceInForce : (s.setSocket i x).debounceInForce = s.debounceInForce := rfl
@[simp] theorem State.setSocket_slots : (s.setSocket i x).slots = s.slots := rfl
@[simp] theorem State.setSocket_fetchIndex : (s.setSocket i x).fetchIndex = s.fetchIndex := rfl
@[simp] theorem State.setSocket_expectedSeq : (s.setSocket i x).expectedSeq = s.expectedSeq := rfl
@[simp] theorem State.setSocket_zones : (s.setSocket i x).zones = s.zones := rfl
@[simp] theorem State.setSocket_socketWaiters : (s.setSocket i x).socketWaiters = s.socketWaiters := rfl
@[simp] theorem State.setSocket_holdTimers : (s.setSocket i x).holdTimers = s.holdTimers := rfl
@[simp] theorem State.setSocket_nozzles : (s.setSocket i x).nozzles = s.nozzles := rfl
@[simp] theorem State.setSocket_pointers : (s.setSocket i x).pointers = s.pointers := rfl
@[simp] theorem State.setSocket_sockets : (s.setSocket i x).sockets = s.sockets.set i x := rfl
@[simp] theorem State.setSocket_pendingTags : (s.setSocket i x).pendingTags = s.pendingTags := rfl
@[simp] theorem State.setSocket_picked : (s.setSocket i x).picked = s.picked := rfl
@[simp] theorem State.setSocket_discarded : (s.setSocket i x).discarded = s.discarded := rfl
@[simp] theorem State.setSocket_delivered : (s.setSocket i x).delivered = s.delivered := rfl
@[simp] theorem State.setSocket_drain : (s.setSocket i x).drain = s.drain := rfl
@[simp] theorem State.setSocket_dividerCount : (s.setSocket i x).dividerCount = s.dividerCount := rfl
@[simp] theorem State.setSocket_presence : (s.setSocket i x).presence = s.presence := rfl
@[simp] theorem State.setSocket_grips : (s.setSocket i x).grips = s.grips := rfl
@[simp] theorem State.setSocket_heads : (s.setSocket i x).heads = s.heads := rfl
@[simp] theorem State.setSocket_snapshot : (s.setSocket i x).snapshot = s.snapshot := rfl
@[simp] theorem State.setSocket_capture : (s.setSocket i x).capture = s.capture := rfl
@[simp] theorem State.setSocket_overflow : (s.setSocket i x).overflow = s.overflow := rfl
@[simp] theorem State.setSocket_headsSeen : (s.setSocket i x).headsSeen = s.headsSeen := rfl
@[simp] theorem State.setSocket_counters : (s.setSocket i x).counters = s.counters := rfl
@[simp] theorem State.setSocket_controllerProtect : (s.setSocket i x).controllerProtect = s.controllerProtect := rfl
@[simp] theorem State.setSocket_profileRefused : (s.setSocket i x).profileRefused = s.profileRefused := rfl
@[simp] theorem State.setSocket_freeDraws : (s.setSocket i x).freeDraws = s.freeDraws := rfl

end

/-! ### setHead -/

section

variable (h : HeadIx) (x : HeadRec)

@[simp] theorem State.setHead_pending : (s.setHead h x).pending = s.pending := rfl
@[simp] theorem State.setHead_lastGrant : (s.setHead h x).lastGrant = s.lastGrant := rfl
@[simp] theorem State.setHead_controlCode : (s.setHead h x).controlCode = s.controlCode := rfl
@[simp] theorem State.setHead_controlResult : (s.setHead h x).controlResult = s.controlResult := rfl
@[simp] theorem State.setHead_controllerData : (s.setHead h x).controllerData = s.controllerData := rfl
@[simp] theorem State.setHead_driveData : (s.setHead h x).driveData = s.driveData := rfl
@[simp] theorem State.setHead_dcm : (s.setHead h x).dcm = s.dcm := rfl
@[simp] theorem State.setHead_mode : (s.setHead h x).mode = s.mode := rfl
@[simp] theorem State.setHead_zonePage : (s.setHead h x).zonePage = s.zonePage := rfl
@[simp] theorem State.setHead_socketPage : (s.setHead h x).socketPage = s.socketPage := rfl
@[simp] theorem State.setHead_headPage : (s.setHead h x).headPage = s.headPage := rfl
@[simp] theorem State.setHead_limits : (s.setHead h x).limits = s.limits := rfl
@[simp] theorem State.setHead_counter : (s.setHead h x).counter = s.counter := rfl
@[simp] theorem State.setHead_profileResult : (s.setHead h x).profileResult = s.profileResult := rfl
@[simp] theorem State.setHead_divisorInForce : (s.setHead h x).divisorInForce = s.divisorInForce := rfl
@[simp] theorem State.setHead_debounceInForce : (s.setHead h x).debounceInForce = s.debounceInForce := rfl
@[simp] theorem State.setHead_slots : (s.setHead h x).slots = s.slots := rfl
@[simp] theorem State.setHead_fetchIndex : (s.setHead h x).fetchIndex = s.fetchIndex := rfl
@[simp] theorem State.setHead_expectedSeq : (s.setHead h x).expectedSeq = s.expectedSeq := rfl
@[simp] theorem State.setHead_zones : (s.setHead h x).zones = s.zones := rfl
@[simp] theorem State.setHead_socketWaiters : (s.setHead h x).socketWaiters = s.socketWaiters := rfl
@[simp] theorem State.setHead_holdTimers : (s.setHead h x).holdTimers = s.holdTimers := rfl
@[simp] theorem State.setHead_nozzles : (s.setHead h x).nozzles = s.nozzles := rfl
@[simp] theorem State.setHead_pointers : (s.setHead h x).pointers = s.pointers := rfl
@[simp] theorem State.setHead_sockets : (s.setHead h x).sockets = s.sockets := rfl
@[simp] theorem State.setHead_pendingTags : (s.setHead h x).pendingTags = s.pendingTags := rfl
@[simp] theorem State.setHead_picked : (s.setHead h x).picked = s.picked := rfl
@[simp] theorem State.setHead_discarded : (s.setHead h x).discarded = s.discarded := rfl
@[simp] theorem State.setHead_delivered : (s.setHead h x).delivered = s.delivered := rfl
@[simp] theorem State.setHead_drain : (s.setHead h x).drain = s.drain := rfl
@[simp] theorem State.setHead_dividerCount : (s.setHead h x).dividerCount = s.dividerCount := rfl
@[simp] theorem State.setHead_presence : (s.setHead h x).presence = s.presence := rfl
@[simp] theorem State.setHead_grips : (s.setHead h x).grips = s.grips := rfl
@[simp] theorem State.setHead_heads : (s.setHead h x).heads = s.heads.set h x := rfl
@[simp] theorem State.setHead_snapshot : (s.setHead h x).snapshot = s.snapshot := rfl
@[simp] theorem State.setHead_capture : (s.setHead h x).capture = s.capture := rfl
@[simp] theorem State.setHead_overflow : (s.setHead h x).overflow = s.overflow := rfl
@[simp] theorem State.setHead_headsSeen : (s.setHead h x).headsSeen = s.headsSeen := rfl
@[simp] theorem State.setHead_counters : (s.setHead h x).counters = s.counters := rfl
@[simp] theorem State.setHead_controllerProtect : (s.setHead h x).controllerProtect = s.controllerProtect := rfl
@[simp] theorem State.setHead_profileRefused : (s.setHead h x).profileRefused = s.profileRefused := rfl
@[simp] theorem State.setHead_freeDraws : (s.setHead h x).freeDraws = s.freeDraws := rfl

end

/-! ### setCounters -/

section

variable (h : HeadIx) (c : HeadCounters)

@[simp] theorem State.setCounters_pending : (s.setCounters h c).pending = s.pending := rfl
@[simp] theorem State.setCounters_lastGrant : (s.setCounters h c).lastGrant = s.lastGrant := rfl
@[simp] theorem State.setCounters_controlCode : (s.setCounters h c).controlCode = s.controlCode := rfl
@[simp] theorem State.setCounters_controlResult : (s.setCounters h c).controlResult = s.controlResult := rfl
@[simp] theorem State.setCounters_controllerData : (s.setCounters h c).controllerData = s.controllerData := rfl
@[simp] theorem State.setCounters_driveData : (s.setCounters h c).driveData = s.driveData := rfl
@[simp] theorem State.setCounters_dcm : (s.setCounters h c).dcm = s.dcm := rfl
@[simp] theorem State.setCounters_mode : (s.setCounters h c).mode = s.mode := rfl
@[simp] theorem State.setCounters_zonePage : (s.setCounters h c).zonePage = s.zonePage := rfl
@[simp] theorem State.setCounters_socketPage : (s.setCounters h c).socketPage = s.socketPage := rfl
@[simp] theorem State.setCounters_headPage : (s.setCounters h c).headPage = s.headPage := rfl
@[simp] theorem State.setCounters_limits : (s.setCounters h c).limits = s.limits := rfl
@[simp] theorem State.setCounters_counter : (s.setCounters h c).counter = s.counter := rfl
@[simp] theorem State.setCounters_profileResult : (s.setCounters h c).profileResult = s.profileResult := rfl
@[simp] theorem State.setCounters_divisorInForce : (s.setCounters h c).divisorInForce = s.divisorInForce := rfl
@[simp] theorem State.setCounters_debounceInForce : (s.setCounters h c).debounceInForce = s.debounceInForce := rfl
@[simp] theorem State.setCounters_slots : (s.setCounters h c).slots = s.slots := rfl
@[simp] theorem State.setCounters_fetchIndex : (s.setCounters h c).fetchIndex = s.fetchIndex := rfl
@[simp] theorem State.setCounters_expectedSeq : (s.setCounters h c).expectedSeq = s.expectedSeq := rfl
@[simp] theorem State.setCounters_zones : (s.setCounters h c).zones = s.zones := rfl
@[simp] theorem State.setCounters_socketWaiters : (s.setCounters h c).socketWaiters = s.socketWaiters := rfl
@[simp] theorem State.setCounters_holdTimers : (s.setCounters h c).holdTimers = s.holdTimers := rfl
@[simp] theorem State.setCounters_nozzles : (s.setCounters h c).nozzles = s.nozzles := rfl
@[simp] theorem State.setCounters_pointers : (s.setCounters h c).pointers = s.pointers := rfl
@[simp] theorem State.setCounters_sockets : (s.setCounters h c).sockets = s.sockets := rfl
@[simp] theorem State.setCounters_pendingTags : (s.setCounters h c).pendingTags = s.pendingTags := rfl
@[simp] theorem State.setCounters_picked : (s.setCounters h c).picked = s.picked := rfl
@[simp] theorem State.setCounters_discarded : (s.setCounters h c).discarded = s.discarded := rfl
@[simp] theorem State.setCounters_delivered : (s.setCounters h c).delivered = s.delivered := rfl
@[simp] theorem State.setCounters_drain : (s.setCounters h c).drain = s.drain := rfl
@[simp] theorem State.setCounters_dividerCount : (s.setCounters h c).dividerCount = s.dividerCount := rfl
@[simp] theorem State.setCounters_presence : (s.setCounters h c).presence = s.presence := rfl
@[simp] theorem State.setCounters_grips : (s.setCounters h c).grips = s.grips := rfl
@[simp] theorem State.setCounters_heads : (s.setCounters h c).heads = s.heads := rfl
@[simp] theorem State.setCounters_snapshot : (s.setCounters h c).snapshot = s.snapshot := rfl
@[simp] theorem State.setCounters_capture : (s.setCounters h c).capture = s.capture := rfl
@[simp] theorem State.setCounters_overflow : (s.setCounters h c).overflow = s.overflow := rfl
@[simp] theorem State.setCounters_headsSeen : (s.setCounters h c).headsSeen = s.headsSeen := rfl
@[simp] theorem State.setCounters_counters : (s.setCounters h c).counters = s.counters.set h c := rfl
@[simp] theorem State.setCounters_controllerProtect : (s.setCounters h c).controllerProtect = s.controllerProtect := rfl
@[simp] theorem State.setCounters_profileRefused : (s.setCounters h c).profileRefused = s.profileRefused := rfl
@[simp] theorem State.setCounters_freeDraws : (s.setCounters h c).freeDraws = s.freeDraws := rfl

end

/-! ### setPresence -/

section

variable (i : SocketIx) (f : LineFilter)

@[simp] theorem State.setPresence_pending : (s.setPresence i f).pending = s.pending := rfl
@[simp] theorem State.setPresence_lastGrant : (s.setPresence i f).lastGrant = s.lastGrant := rfl
@[simp] theorem State.setPresence_controlCode : (s.setPresence i f).controlCode = s.controlCode := rfl
@[simp] theorem State.setPresence_controlResult : (s.setPresence i f).controlResult = s.controlResult := rfl
@[simp] theorem State.setPresence_controllerData : (s.setPresence i f).controllerData = s.controllerData := rfl
@[simp] theorem State.setPresence_driveData : (s.setPresence i f).driveData = s.driveData := rfl
@[simp] theorem State.setPresence_dcm : (s.setPresence i f).dcm = s.dcm := rfl
@[simp] theorem State.setPresence_mode : (s.setPresence i f).mode = s.mode := rfl
@[simp] theorem State.setPresence_zonePage : (s.setPresence i f).zonePage = s.zonePage := rfl
@[simp] theorem State.setPresence_socketPage : (s.setPresence i f).socketPage = s.socketPage := rfl
@[simp] theorem State.setPresence_headPage : (s.setPresence i f).headPage = s.headPage := rfl
@[simp] theorem State.setPresence_limits : (s.setPresence i f).limits = s.limits := rfl
@[simp] theorem State.setPresence_counter : (s.setPresence i f).counter = s.counter := rfl
@[simp] theorem State.setPresence_profileResult : (s.setPresence i f).profileResult = s.profileResult := rfl
@[simp] theorem State.setPresence_divisorInForce : (s.setPresence i f).divisorInForce = s.divisorInForce := rfl
@[simp] theorem State.setPresence_debounceInForce : (s.setPresence i f).debounceInForce = s.debounceInForce := rfl
@[simp] theorem State.setPresence_slots : (s.setPresence i f).slots = s.slots := rfl
@[simp] theorem State.setPresence_fetchIndex : (s.setPresence i f).fetchIndex = s.fetchIndex := rfl
@[simp] theorem State.setPresence_expectedSeq : (s.setPresence i f).expectedSeq = s.expectedSeq := rfl
@[simp] theorem State.setPresence_zones : (s.setPresence i f).zones = s.zones := rfl
@[simp] theorem State.setPresence_socketWaiters : (s.setPresence i f).socketWaiters = s.socketWaiters := rfl
@[simp] theorem State.setPresence_holdTimers : (s.setPresence i f).holdTimers = s.holdTimers := rfl
@[simp] theorem State.setPresence_nozzles : (s.setPresence i f).nozzles = s.nozzles := rfl
@[simp] theorem State.setPresence_pointers : (s.setPresence i f).pointers = s.pointers := rfl
@[simp] theorem State.setPresence_sockets : (s.setPresence i f).sockets = s.sockets := rfl
@[simp] theorem State.setPresence_pendingTags : (s.setPresence i f).pendingTags = s.pendingTags := rfl
@[simp] theorem State.setPresence_picked : (s.setPresence i f).picked = s.picked := rfl
@[simp] theorem State.setPresence_discarded : (s.setPresence i f).discarded = s.discarded := rfl
@[simp] theorem State.setPresence_delivered : (s.setPresence i f).delivered = s.delivered := rfl
@[simp] theorem State.setPresence_drain : (s.setPresence i f).drain = s.drain := rfl
@[simp] theorem State.setPresence_dividerCount : (s.setPresence i f).dividerCount = s.dividerCount := rfl
@[simp] theorem State.setPresence_presence : (s.setPresence i f).presence = s.presence.set i f := rfl
@[simp] theorem State.setPresence_grips : (s.setPresence i f).grips = s.grips := rfl
@[simp] theorem State.setPresence_heads : (s.setPresence i f).heads = s.heads := rfl
@[simp] theorem State.setPresence_snapshot : (s.setPresence i f).snapshot = s.snapshot := rfl
@[simp] theorem State.setPresence_capture : (s.setPresence i f).capture = s.capture := rfl
@[simp] theorem State.setPresence_overflow : (s.setPresence i f).overflow = s.overflow := rfl
@[simp] theorem State.setPresence_headsSeen : (s.setPresence i f).headsSeen = s.headsSeen := rfl
@[simp] theorem State.setPresence_counters : (s.setPresence i f).counters = s.counters := rfl
@[simp] theorem State.setPresence_controllerProtect : (s.setPresence i f).controllerProtect = s.controllerProtect := rfl
@[simp] theorem State.setPresence_profileRefused : (s.setPresence i f).profileRefused = s.profileRefused := rfl
@[simp] theorem State.setPresence_freeDraws : (s.setPresence i f).freeDraws = s.freeDraws := rfl

end

/-! ### setGrip -/

section

variable (h : HeadIx) (n : NozzleId) (f : LineFilter)

@[simp] theorem State.setGrip_pending : (s.setGrip h n f).pending = s.pending := rfl
@[simp] theorem State.setGrip_lastGrant : (s.setGrip h n f).lastGrant = s.lastGrant := rfl
@[simp] theorem State.setGrip_controlCode : (s.setGrip h n f).controlCode = s.controlCode := rfl
@[simp] theorem State.setGrip_controlResult : (s.setGrip h n f).controlResult = s.controlResult := rfl
@[simp] theorem State.setGrip_controllerData : (s.setGrip h n f).controllerData = s.controllerData := rfl
@[simp] theorem State.setGrip_driveData : (s.setGrip h n f).driveData = s.driveData := rfl
@[simp] theorem State.setGrip_dcm : (s.setGrip h n f).dcm = s.dcm := rfl
@[simp] theorem State.setGrip_mode : (s.setGrip h n f).mode = s.mode := rfl
@[simp] theorem State.setGrip_zonePage : (s.setGrip h n f).zonePage = s.zonePage := rfl
@[simp] theorem State.setGrip_socketPage : (s.setGrip h n f).socketPage = s.socketPage := rfl
@[simp] theorem State.setGrip_headPage : (s.setGrip h n f).headPage = s.headPage := rfl
@[simp] theorem State.setGrip_limits : (s.setGrip h n f).limits = s.limits := rfl
@[simp] theorem State.setGrip_counter : (s.setGrip h n f).counter = s.counter := rfl
@[simp] theorem State.setGrip_profileResult : (s.setGrip h n f).profileResult = s.profileResult := rfl
@[simp] theorem State.setGrip_divisorInForce : (s.setGrip h n f).divisorInForce = s.divisorInForce := rfl
@[simp] theorem State.setGrip_debounceInForce : (s.setGrip h n f).debounceInForce = s.debounceInForce := rfl
@[simp] theorem State.setGrip_slots : (s.setGrip h n f).slots = s.slots := rfl
@[simp] theorem State.setGrip_fetchIndex : (s.setGrip h n f).fetchIndex = s.fetchIndex := rfl
@[simp] theorem State.setGrip_expectedSeq : (s.setGrip h n f).expectedSeq = s.expectedSeq := rfl
@[simp] theorem State.setGrip_zones : (s.setGrip h n f).zones = s.zones := rfl
@[simp] theorem State.setGrip_socketWaiters : (s.setGrip h n f).socketWaiters = s.socketWaiters := rfl
@[simp] theorem State.setGrip_holdTimers : (s.setGrip h n f).holdTimers = s.holdTimers := rfl
@[simp] theorem State.setGrip_nozzles : (s.setGrip h n f).nozzles = s.nozzles := rfl
@[simp] theorem State.setGrip_pointers : (s.setGrip h n f).pointers = s.pointers := rfl
@[simp] theorem State.setGrip_sockets : (s.setGrip h n f).sockets = s.sockets := rfl
@[simp] theorem State.setGrip_pendingTags : (s.setGrip h n f).pendingTags = s.pendingTags := rfl
@[simp] theorem State.setGrip_picked : (s.setGrip h n f).picked = s.picked := rfl
@[simp] theorem State.setGrip_discarded : (s.setGrip h n f).discarded = s.discarded := rfl
@[simp] theorem State.setGrip_delivered : (s.setGrip h n f).delivered = s.delivered := rfl
@[simp] theorem State.setGrip_drain : (s.setGrip h n f).drain = s.drain := rfl
@[simp] theorem State.setGrip_dividerCount : (s.setGrip h n f).dividerCount = s.dividerCount := rfl
@[simp] theorem State.setGrip_presence : (s.setGrip h n f).presence = s.presence := rfl
@[simp] theorem State.setGrip_grips : (s.setGrip h n f).grips = s.grips.set h (s.grips[h].set n f) := rfl
@[simp] theorem State.setGrip_heads : (s.setGrip h n f).heads = s.heads := rfl
@[simp] theorem State.setGrip_snapshot : (s.setGrip h n f).snapshot = s.snapshot := rfl
@[simp] theorem State.setGrip_capture : (s.setGrip h n f).capture = s.capture := rfl
@[simp] theorem State.setGrip_overflow : (s.setGrip h n f).overflow = s.overflow := rfl
@[simp] theorem State.setGrip_headsSeen : (s.setGrip h n f).headsSeen = s.headsSeen := rfl
@[simp] theorem State.setGrip_counters : (s.setGrip h n f).counters = s.counters := rfl
@[simp] theorem State.setGrip_controllerProtect : (s.setGrip h n f).controllerProtect = s.controllerProtect := rfl
@[simp] theorem State.setGrip_profileRefused : (s.setGrip h n f).profileRefused = s.profileRefused := rfl
@[simp] theorem State.setGrip_freeDraws : (s.setGrip h n f).freeDraws = s.freeDraws := rfl

end

/-! ### grant and passWrite -/

@[simp] theorem State.grant_eq (src : Source) : s.grant src = { s with lastGrant := src.port } := rfl

@[simp] theorem passWrite_eq (src : Source) (a : Nat) (w : Word) :
    passWrite src a w s = { s with lastGrant := src.port, dcm := dcmWrite s.dcm a w } := rfl

/-! ### The pair of nozzles -/

@[simp] theorem PerNozzle.get_set {α : Type} (p : PerNozzle α) (n m : NozzleId) (x : α) :
    (p.set n x).get m = if m = n then x else p.get m := by
  cases n <;> cases m <;> rfl

/-! ### Reading a record after one was set -/

theorem State.order_setOrder (h g : HeadIx) (k j : SlotIx) (o : Order) :
    (s.setOrder h k o).order g j = if g = h ∧ j = k then o else s.order g j := by
  rcases eq_or_ne g h with rfl | hg
  · rcases eq_or_ne j k with rfl | hk
    · simp [State.order]
    · have : k.val ≠ j.val := fun e => hk (Fin.ext e.symm)
      simp [State.order, hk, this]
  · have : h.val ≠ g.val := fun e => hg (Fin.ext e.symm)
    simp [State.order, hg, this]

theorem State.nozzle_setNozzle (h g : HeadIx) (n m : NozzleId) (x : Nozzle) :
    (s.setNozzle h n x).nozzle g m = if g = h ∧ m = n then x else s.nozzle g m := by
  rcases eq_or_ne g h with rfl | hg
  · simp [State.nozzle]
  · have : h.val ≠ g.val := fun e => hg (Fin.ext e.symm)
    simp [State.nozzle, hg, this]

/-- An element of a vector after another was set, by numbers of the vector's own index type. -/
theorem getElem_set_fin {α : Type} {n : Nat} (v : Vector α n) (i j : Fin n) (x : α) :
    (v.set i x)[j] = if j = i then x else v[j] := by
  rcases eq_or_ne j i with rfl | h
  · simp
  · have : i.val ≠ j.val := fun e => h (Fin.ext e.symm)
    simp [h, this]

@[simp] theorem getElem_ofFn_fin {α : Type} {n : Nat} (f : Fin n → α) (i : Fin n) : (Vector.ofFn f)[i] = f i := by
  simp

end Sys2Proof.Machine
end

