-- ==== Sys2Proof/Laws/Frames.lean ====
section
/-! SUPPORT. What each shared operation can change at most: one lemma per operation, which names every field that it
leaves as it was. -/

namespace Sys2Proof.Machine

/-! ### The frames -/

/-- Nothing but the capture table, its overflow flag and the heads-seen set differs. -/
structure OnlyCapture (s t : State) : Prop where
  pending : t.pending = s.pending
  lastGrant : t.lastGrant = s.lastGrant
  controlCode : t.controlCode = s.controlCode
  controlResult : t.controlResult = s.controlResult
  controllerData : t.controllerData = s.controllerData
  driveData : t.driveData = s.driveData
  dcm : t.dcm = s.dcm
  mode : t.mode = s.mode
  zonePage : t.zonePage = s.zonePage
  socketPage : t.socketPage = s.socketPage
  headPage : t.headPage = s.headPage
  limits : t.limits = s.limits
  counter : t.counter = s.counter
  profileResult : t.profileResult = s.profileResult
  divisorInForce : t.divisorInForce = s.divisorInForce
  debounceInForce : t.debounceInForce = s.debounceInForce
  slots : t.slots = s.slots
  fetchIndex : t.fetchIndex = s.fetchIndex
  expectedSeq : t.expectedSeq = s.expectedSeq
  zones : t.zones = s.zones
  socketWaiters : t.socketWaiters = s.socketWaiters
  holdTimers : t.holdTimers = s.holdTimers
  nozzles : t.nozzles = s.nozzles
  pointers : t.pointers = s.pointers
  sockets : t.sockets = s.sockets
  pendingTags : t.pendingTags = s.pendingTags
  picked : t.picked = s.picked
  discarded : t.discarded = s.discarded
  delivered : t.delivered = s.delivered
  drain : t.drain = s.drain
  dividerCount : t.dividerCount = s.dividerCount
  presence : t.presence = s.presence
  grips : t.grips = s.grips
  heads : t.heads = s.heads
  snapshot : t.snapshot = s.snapshot
  counters : t.counters = s.counters
  controllerProtect : t.controllerProtect = s.controllerProtect
  profileRefused : t.profileRefused = s.profileRefused
  freeDraws : t.freeDraws = s.freeDraws

/-- Nothing but sockets, nozzles and head records differs. -/
structure OnlyLineRecords (s t : State) : Prop where
  pending : t.pending = s.pending
  lastGrant : t.lastGrant = s.lastGrant
  controlCode : t.controlCode = s.controlCode
  controlResult : t.controlResult = s.controlResult
  controllerData : t.controllerData = s.controllerData
  driveData : t.driveData = s.driveData
  dcm : t.dcm = s.dcm
  mode : t.mode = s.mode
  zonePage : t.zonePage = s.zonePage
  socketPage : t.socketPage = s.socketPage
  headPage : t.headPage = s.headPage
  limits : t.limits = s.limits
  counter : t.counter = s.counter
  profileResult : t.profileResult = s.profileResult
  divisorInForce : t.divisorInForce = s.divisorInForce
  debounceInForce : t.debounceInForce = s.debounceInForce
  slots : t.slots = s.slots
  fetchIndex : t.fetchIndex = s.fetchIndex
  expectedSeq : t.expectedSeq = s.expectedSeq
  zones : t.zones = s.zones
  socketWaiters : t.socketWaiters = s.socketWaiters
  holdTimers : t.holdTimers = s.holdTimers
  pointers : t.pointers = s.pointers
  pendingTags : t.pendingTags = s.pendingTags
  picked : t.picked = s.picked
  discarded : t.discarded = s.discarded
  delivered : t.delivered = s.delivered
  drain : t.drain = s.drain
  dividerCount : t.dividerCount = s.dividerCount
  presence : t.presence = s.presence
  grips : t.grips = s.grips
  snapshot : t.snapshot = s.snapshot
  capture : t.capture = s.capture
  overflow : t.overflow = s.overflow
  headsSeen : t.headsSeen = s.headsSeen
  counters : t.counters = s.counters
  controllerProtect : t.controllerProtect = s.controllerProtect
  profileRefused : t.profileRefused = s.profileRefused
  freeDraws : t.freeDraws = s.freeDraws

/-- Nothing but sockets, nozzles, head records and the capture table differs. -/
structure OnlyOwners (s t : State) : Prop where
  pending : t.pending = s.pending
  lastGrant : t.lastGrant = s.lastGrant
  controlCode : t.controlCode = s.controlCode
  controlResult : t.controlResult = s.controlResult
  controllerData : t.controllerData = s.controllerData
  driveData : t.driveData = s.driveData
  dcm : t.dcm = s.dcm
  mode : t.mode = s.mode
  zonePage : t.zonePage = s.zonePage
  socketPage : t.socketPage = s.socketPage
  headPage : t.headPage = s.headPage
  limits : t.limits = s.limits
  counter : t.counter = s.counter
  profileResult : t.profileResult = s.profileResult
  divisorInForce : t.divisorInForce = s.divisorInForce
  debounceInForce : t.debounceInForce = s.debounceInForce
  slots : t.slots = s.slots
  fetchIndex : t.fetchIndex = s.fetchIndex
  expectedSeq : t.expectedSeq = s.expectedSeq
  zones : t.zones = s.zones
  socketWaiters : t.socketWaiters = s.socketWaiters
  holdTimers : t.holdTimers = s.holdTimers
  pointers : t.pointers = s.pointers
  pendingTags : t.pendingTags = s.pendingTags
  picked : t.picked = s.picked
  discarded : t.discarded = s.discarded
  delivered : t.delivered = s.delivered
  drain : t.drain = s.drain
  dividerCount : t.dividerCount = s.dividerCount
  presence : t.presence = s.presence
  grips : t.grips = s.grips
  snapshot : t.snapshot = s.snapshot
  counters : t.counters = s.counters
  controllerProtect : t.controllerProtect = s.controllerProtect
  profileRefused : t.profileRefused = s.profileRefused
  freeDraws : t.freeDraws = s.freeDraws

/-- Nothing differs but what a line event or a timer expiry can change. -/
structure OnlyEvents (s t : State) : Prop where
  pending : t.pending = s.pending
  lastGrant : t.lastGrant = s.lastGrant
  controlCode : t.controlCode = s.controlCode
  controlResult : t.controlResult = s.controlResult
  controllerData : t.controllerData = s.controllerData
  driveData : t.driveData = s.driveData
  dcm : t.dcm = s.dcm
  mode : t.mode = s.mode
  zonePage : t.zonePage = s.zonePage
  socketPage : t.socketPage = s.socketPage
  headPage : t.headPage = s.headPage
  limits : t.limits = s.limits
  counter : t.counter = s.counter
  profileResult : t.profileResult = s.profileResult
  divisorInForce : t.divisorInForce = s.divisorInForce
  debounceInForce : t.debounceInForce = s.debounceInForce
  fetchIndex : t.fetchIndex = s.fetchIndex
  expectedSeq : t.expectedSeq = s.expectedSeq
  pointers : t.pointers = s.pointers
  pendingTags : t.pendingTags = s.pendingTags
  picked : t.picked = s.picked
  discarded : t.discarded = s.discarded
  delivered : t.delivered = s.delivered
  drain : t.drain = s.drain
  dividerCount : t.dividerCount = s.dividerCount
  snapshot : t.snapshot = s.snapshot
  counters : t.counters = s.counters
  controllerProtect : t.controllerProtect = s.controllerProtect
  profileRefused : t.profileRefused = s.profileRefused

/-- Nothing differs but what a drive's fetch or report can change beside the memory and the last grant. -/
structure OnlyDriveWork (s t : State) : Prop where
  pending : t.pending = s.pending
  lastGrant : t.lastGrant = s.lastGrant
  controlCode : t.controlCode = s.controlCode
  controlResult : t.controlResult = s.controlResult
  controllerData : t.controllerData = s.controllerData
  dcm : t.dcm = s.dcm
  mode : t.mode = s.mode
  zonePage : t.zonePage = s.zonePage
  socketPage : t.socketPage = s.socketPage
  headPage : t.headPage = s.headPage
  limits : t.limits = s.limits
  counter : t.counter = s.counter
  profileResult : t.profileResult = s.profileResult
  divisorInForce : t.divisorInForce = s.divisorInForce
  debounceInForce : t.debounceInForce = s.debounceInForce
  expectedSeq : t.expectedSeq = s.expectedSeq
  discarded : t.discarded = s.discarded
  drain : t.drain = s.drain
  dividerCount : t.dividerCount = s.dividerCount
  presence : t.presence = s.presence
  grips : t.grips = s.grips
  snapshot : t.snapshot = s.snapshot
  controllerProtect : t.controllerProtect = s.controllerProtect
  profileRefused : t.profileRefused = s.profileRefused
  freeDraws : t.freeDraws = s.freeDraws

variable {s t u : State}

theorem OnlyCapture.refl : OnlyCapture s s := by constructor <;> rfl

theorem OnlyCapture.trans (h : OnlyCapture s t) (k : OnlyCapture t u) : OnlyCapture s u where
  pending := k.pending.trans h.pending
  lastGrant := k.lastGrant.trans h.lastGrant
  controlCode := k.controlCode.trans h.controlCode
  controlResult := k.controlResult.trans h.controlResult
  controllerData := k.controllerData.trans h.controllerData
  driveData := k.driveData.trans h.driveData
  dcm := k.dcm.trans h.dcm
  mode := k.mode.trans h.mode
  zonePage := k.zonePage.trans h.zonePage
  socketPage := k.socketPage.trans h.socketPage
  headPage := k.headPage.trans h.headPage
  limits := k.limits.trans h.limits
  counter := k.counter.trans h.counter
  profileResult := k.profileResult.trans h.profileResult
  divisorInForce := k.divisorInForce.trans h.divisorInForce
  debounceInForce := k.debounceInForce.trans h.debounceInForce
  slots := k.slots.trans h.slots
  fetchIndex := k.fetchIndex.trans h.fetchIndex
  expectedSeq := k.expectedSeq.trans h.expectedSeq
  zones := k.zones.trans h.zones
  socketWaiters := k.socketWaiters.trans h.socketWaiters
  holdTimers := k.holdTimers.trans h.holdTimers
  nozzles := k.nozzles.trans h.nozzles
  pointers := k.pointers.trans h.pointers
  sockets := k.sockets.trans h.sockets
  pendingTags := k.pendingTags.trans h.pendingTags
  picked := k.picked.trans h.picked
  discarded := k.discarded.trans h.discarded
  delivered := k.delivered.trans h.delivered
  drain := k.drain.trans h.drain
  dividerCount := k.dividerCount.trans h.dividerCount
  presence := k.presence.trans h.presence
  grips := k.grips.trans h.grips
  heads := k.heads.trans h.heads
  snapshot := k.snapshot.trans h.snapshot
  counters := k.counters.trans h.counters
  controllerProtect := k.controllerProtect.trans h.controllerProtect
  profileRefused := k.profileRefused.trans h.profileRefused
  freeDraws := k.freeDraws.trans h.freeDraws

theorem OnlyLineRecords.refl : OnlyLineRecords s s := by constructor <;> rfl

theorem OnlyLineRecords.trans (h : OnlyLineRecords s t) (k : OnlyLineRecords t u) : OnlyLineRecords s u where
  pending := k.pending.trans h.pending
  lastGrant := k.lastGrant.trans h.lastGrant
  controlCode := k.controlCode.trans h.controlCode
  controlResult := k.controlResult.trans h.controlResult
  controllerData := k.controllerData.trans h.controllerData
  driveData := k.driveData.trans h.driveData
  dcm := k.dcm.trans h.dcm
  mode := k.mode.trans h.mode
  zonePage := k.zonePage.trans h.zonePage
  socketPage := k.socketPage.trans h.socketPage
  headPage := k.headPage.trans h.headPage
  limits := k.limits.trans h.limits
  counter := k.counter.trans h.counter
  profileResult := k.profileResult.trans h.profileResult
  divisorInForce := k.divisorInForce.trans h.divisorInForce
  debounceInForce := k.debounceInForce.trans h.debounceInForce
  slots := k.slots.trans h.slots
  fetchIndex := k.fetchIndex.trans h.fetchIndex
  expectedSeq := k.expectedSeq.trans h.expectedSeq
  zones := k.zones.trans h.zones
  socketWaiters := k.socketWaiters.trans h.socketWaiters
  holdTimers := k.holdTimers.trans h.holdTimers
  pointers := k.pointers.trans h.pointers
  pendingTags := k.pendingTags.trans h.pendingTags
  picked := k.picked.trans h.picked
  discarded := k.discarded.trans h.discarded
  delivered := k.delivered.trans h.delivered
  drain := k.drain.trans h.drain
  dividerCount := k.dividerCount.trans h.dividerCount
  presence := k.presence.trans h.presence
  grips := k.grips.trans h.grips
  snapshot := k.snapshot.trans h.snapshot
  capture := k.capture.trans h.capture
  overflow := k.overflow.trans h.overflow
  headsSeen := k.headsSeen.trans h.headsSeen
  counters := k.counters.trans h.counters
  controllerProtect := k.controllerProtect.trans h.controllerProtect
  profileRefused := k.profileRefused.trans h.profileRefused
  freeDraws := k.freeDraws.trans h.freeDraws

theorem OnlyOwners.refl : OnlyOwners s s := by constructor <;> rfl

theorem OnlyOwners.trans (h : OnlyOwners s t) (k : OnlyOwners t u) : OnlyOwners s u where
  pending := k.pending.trans h.pending
  lastGrant := k.lastGrant.trans h.lastGrant
  controlCode := k.controlCode.trans h.controlCode
  controlResult := k.controlResult.trans h.controlResult
  controllerData := k.controllerData.trans h.controllerData
  driveData := k.driveData.trans h.driveData
  dcm := k.dcm.trans h.dcm
  mode := k.mode.trans h.mode
  zonePage := k.zonePage.trans h.zonePage
  socketPage := k.socketPage.trans h.socketPage
  headPage := k.headPage.trans h.headPage
  limits := k.limits.trans h.limits
  counter := k.counter.trans h.counter
  profileResult := k.profileResult.trans h.profileResult
  divisorInForce := k.divisorInForce.trans h.divisorInForce
  debounceInForce := k.debounceInForce.trans h.debounceInForce
  slots := k.slots.trans h.slots
  fetchIndex := k.fetchIndex.trans h.fetchIndex
  expectedSeq := k.expectedSeq.trans h.expectedSeq
  zones := k.zones.trans h.zones
  socketWaiters := k.socketWaiters.trans h.socketWaiters
  holdTimers := k.holdTimers.trans h.holdTimers
  pointers := k.pointers.trans h.pointers
  pendingTags := k.pendingTags.trans h.pendingTags
  picked := k.picked.trans h.picked
  discarded := k.discarded.trans h.discarded
  delivered := k.delivered.trans h.delivered
  drain := k.drain.trans h.drain
  dividerCount := k.dividerCount.trans h.dividerCount
  presence := k.presence.trans h.presence
  grips := k.grips.trans h.grips
  snapshot := k.snapshot.trans h.snapshot
  counters := k.counters.trans h.counters
  controllerProtect := k.controllerProtect.trans h.controllerProtect
  profileRefused := k.profileRefused.trans h.profileRefused
  freeDraws := k.freeDraws.trans h.freeDraws

theorem OnlyEvents.refl : OnlyEvents s s := by constructor <;> rfl

theorem OnlyEvents.trans (h : OnlyEvents s t) (k : OnlyEvents t u) : OnlyEvents s u where
  pending := k.pending.trans h.pending
  lastGrant := k.lastGrant.trans h.lastGrant
  controlCode := k.controlCode.trans h.controlCode
  controlResult := k.controlResult.trans h.controlResult
  controllerData := k.controllerData.trans h.controllerData
  driveData := k.driveData.trans h.driveData
  dcm := k.dcm.trans h.dcm
  mode := k.mode.trans h.mode
  zonePage := k.zonePage.trans h.zonePage
  socketPage := k.socketPage.trans h.socketPage
  headPage := k.headPage.trans h.headPage
  limits := k.limits.trans h.limits
  counter := k.counter.trans h.counter
  profileResult := k.profileResult.trans h.profileResult
  divisorInForce := k.divisorInForce.trans h.divisorInForce
  debounceInForce := k.debounceInForce.trans h.debounceInForce
  fetchIndex := k.fetchIndex.trans h.fetchIndex
  expectedSeq := k.expectedSeq.trans h.expectedSeq
  pointers := k.pointers.trans h.pointers
  pendingTags := k.pendingTags.trans h.pendingTags
  picked := k.picked.trans h.picked
  discarded := k.discarded.trans h.discarded
  delivered := k.delivered.trans h.delivered
  drain := k.drain.trans h.drain
  dividerCount := k.dividerCount.trans h.dividerCount
  snapshot := k.snapshot.trans h.snapshot
  counters := k.counters.trans h.counters
  controllerProtect := k.controllerProtect.trans h.controllerProtect
  profileRefused := k.profileRefused.trans h.profileRefused

theorem OnlyDriveWork.refl : OnlyDriveWork s s := by constructor <;> rfl

theorem OnlyDriveWork.trans (h : OnlyDriveWork s t) (k : OnlyDriveWork t u) : OnlyDriveWork s u where
  pending := k.pending.trans h.pending
  lastGrant := k.lastGrant.trans h.lastGrant
  controlCode := k.controlCode.trans h.controlCode
  controlResult := k.controlResult.trans h.controlResult
  controllerData := k.controllerData.trans h.controllerData
  dcm := k.dcm.trans h.dcm
  mode := k.mode.trans h.mode
  zonePage := k.zonePage.trans h.zonePage
  socketPage := k.socketPage.trans h.socketPage
  headPage := k.headPage.trans h.headPage
  limits := k.limits.trans h.limits
  counter := k.counter.trans h.counter
  profileResult := k.profileResult.trans h.profileResult
  divisorInForce := k.divisorInForce.trans h.divisorInForce
  debounceInForce := k.debounceInForce.trans h.debounceInForce
  expectedSeq := k.expectedSeq.trans h.expectedSeq
  discarded := k.discarded.trans h.discarded
  drain := k.drain.trans h.drain
  dividerCount := k.dividerCount.trans h.dividerCount
  presence := k.presence.trans h.presence
  grips := k.grips.trans h.grips
  snapshot := k.snapshot.trans h.snapshot
  controllerProtect := k.controllerProtect.trans h.controllerProtect
  profileRefused := k.profileRefused.trans h.profileRefused
  freeDraws := k.freeDraws.trans h.freeDraws

theorem OnlyCapture.owners (h : OnlyCapture s t) : OnlyOwners s t where
  pending := h.pending
  lastGrant := h.lastGrant
  controlCode := h.controlCode
  controlResult := h.controlResult
  controllerData := h.controllerData
  driveData := h.driveData
  dcm := h.dcm
  mode := h.mode
  zonePage := h.zonePage
  socketPage := h.socketPage
  headPage := h.headPage
  limits := h.limits
  counter := h.counter
  profileResult := h.profileResult
  divisorInForce := h.divisorInForce
  debounceInForce := h.debounceInForce
  slots := h.slots
  fetchIndex := h.fetchIndex
  expectedSeq := h.expectedSeq
  zones := h.zones
  socketWaiters := h.socketWaiters
  holdTimers := h.holdTimers
  pointers := h.pointers
  pendingTags := h.pendingTags
  picked := h.picked
  discarded := h.discarded
  delivered := h.delivered
  drain := h.drain
  dividerCount := h.dividerCount
  presence := h.presence
  grips := h.grips
  snapshot := h.snapshot
  counters := h.counters
  controllerProtect := h.controllerProtect
  profileRefused := h.profileRefused
  freeDraws := h.freeDraws

theorem OnlyLineRecords.owners (h : OnlyLineRecords s t) : OnlyOwners s t where
  pending := h.pending
  lastGrant := h.lastGrant
  controlCode := h.controlCode
  controlResult := h.controlResult
  controllerData := h.controllerData
  driveData := h.driveData
  dcm := h.dcm
  mode := h.mode
  zonePage := h.zonePage
  socketPage := h.socketPage
  headPage := h.headPage
  limits := h.limits
  counter := h.counter
  profileResult := h.profileResult
  divisorInForce := h.divisorInForce
  debounceInForce := h.debounceInForce
  slots := h.slots
  fetchIndex := h.fetchIndex
  expectedSeq := h.expectedSeq
  zones := h.zones
  socketWaiters := h.socketWaiters
  holdTimers := h.holdTimers
  pointers := h.pointers
  pendingTags := h.pendingTags
  picked := h.picked
  discarded := h.discarded
  delivered := h.delivered
  drain := h.drain
  dividerCount := h.dividerCount
  presence := h.presence
  grips := h.grips
  snapshot := h.snapshot
  counters := h.counters
  controllerProtect := h.controllerProtect
  profileRefused := h.profileRefused
  freeDraws := h.freeDraws

theorem OnlyOwners.events (h : OnlyOwners s t) : OnlyEvents s t where
  pending := h.pending
  lastGrant := h.lastGrant
  controlCode := h.controlCode
  controlResult := h.controlResult
  controllerData := h.controllerData
  driveData := h.driveData
  dcm := h.dcm
  mode := h.mode
  zonePage := h.zonePage
  socketPage := h.socketPage
  headPage := h.headPage
  limits := h.limits
  counter := h.counter
  profileResult := h.profileResult
  divisorInForce := h.divisorInForce
  debounceInForce := h.debounceInForce
  fetchIndex := h.fetchIndex
  expectedSeq := h.expectedSeq
  pointers := h.pointers
  pendingTags := h.pendingTags
  picked := h.picked
  discarded := h.discarded
  delivered := h.delivered
  drain := h.drain
  dividerCount := h.dividerCount
  snapshot := h.snapshot
  counters := h.counters
  controllerProtect := h.controllerProtect
  profileRefused := h.profileRefused

theorem OnlyOwners.driveWork (h : OnlyOwners s t) : OnlyDriveWork s t where
  pending := h.pending
  lastGrant := h.lastGrant
  controlCode := h.controlCode
  controlResult := h.controlResult
  controllerData := h.controllerData
  dcm := h.dcm
  mode := h.mode
  zonePage := h.zonePage
  socketPage := h.socketPage
  headPage := h.headPage
  limits := h.limits
  counter := h.counter
  profileResult := h.profileResult
  divisorInForce := h.divisorInForce
  debounceInForce := h.debounceInForce
  expectedSeq := h.expectedSeq
  discarded := h.discarded
  drain := h.drain
  dividerCount := h.dividerCount
  presence := h.presence
  grips := h.grips
  snapshot := h.snapshot
  controllerProtect := h.controllerProtect
  profileRefused := h.profileRefused
  freeDraws := h.freeDraws

theorem OnlyLineRecords.driveWork (h : OnlyLineRecords s t) : OnlyDriveWork s t := h.owners.driveWork

/-! ### Capture, causes, charges -/

theorem captureFault_only (f : FaultReport) (s : State) : OnlyCapture s (captureFault f s) := by
  unfold captureFault
  simp only []
  split <;> split <;> first | (constructor <;> rfl) | (split <;> constructor <;> rfl)

theorem giveCause_only (c : Cause) (h : HeadIx) (s : State) : OnlyLineRecords s (giveCause c h s) := by constructor <;> rfl

theorem giveCauseOnline_only (c : Cause) (h : HeadIx) (s : State) : OnlyLineRecords s (giveCauseOnline c h s) := by
  unfold giveCauseOnline
  split <;> constructor <;> rfl

theorem dropOpenEntries_only (l : Line) (s : State) : OnlyLineRecords s (dropOpenEntries l s) := by constructor <;> rfl

theorem faultOpenEntries_only (l : Line) (s : State) : OnlyLineRecords s (faultOpenEntries l s) := by constructor <;> rfl

theorem chargeOpen_only (l : Line) (s : State) : OnlyLineRecords s (chargeOpen l s) := by
  unfold chargeOpen
  split <;> constructor <;> rfl

theorem chargeFaulted_only (l : Line) (s : State) : OnlyLineRecords s (chargeFaulted l s) := by
  unfold chargeFaulted
  split <;> constructor <;> rfl

/-! ### Lines and sockets -/

theorem setSensor_only (l : Line) (x : Sensor) (s : State) : OnlyLineRecords s (setSensor l x s) := by
  cases l <;> constructor <;> rfl

theorem quietLine_only (l : Line) (s : State) : OnlyLineRecords s (quietLine l s) :=
  (setSensor_only l .quiet s).trans (dropOpenEntries_only l _)

theorem setSocket_only (i : SocketIx) (x : Socket) (s : State) : OnlyLineRecords s (s.setSocket i x) := by constructor <;> rfl

theorem setContent_only (h : HeadIx) (n : NozzleId) (c : NozzleContent) (s : State) :
    OnlyLineRecords s (setContent h n c s) := by constructor <;> rfl

theorem changePhase_only (i : SocketIx) (p : Phase) (s : State) : OnlyLineRecords s (changePhase i p s) := by
  unfold changePhase
  simp only []
  split
  · constructor <;> rfl
  · exact (setSocket_only i _ s).trans (quietLine_only _ _)

theorem disturbLine_only (l : Line) (s : State) : OnlyLineRecords s (disturbLine l s) :=
  (setSensor_only l _ s).trans (chargeOpen_only l _)

theorem compareLine_only (l : Line) (s : State) : OnlyLineRecords s (compareLine l s) := by
  unfold compareLine
  split
  · split
    · constructor <;> rfl
    · exact quietLine_only l s
  · split
    · split
      · exact setSensor_only l _ s
      · constructor <;> rfl
    · split
      · constructor <;> rfl
      · exact disturbLine_only l s

theorem compareLines_only (ls : List Line) (s : State) : OnlyLineRecords s (compareLines ls s) := by
  induction ls generalizing s with
  | nil => constructor <;> rfl
  | cons l rest ih => exact (compareLine_only l s).trans (ih _)

theorem dropReservation_only (i : SocketIx) (s : State) : OnlyLineRecords s (dropReservation i s) := by constructor <;> rfl

theorem commandPhase_only (i : SocketIx) (p : Phase) (s : State) : OnlyLineRecords s (commandPhase i p s) :=
  (changePhase_only i p s).trans (compareLine_only _ _)

/-! ### Line events and expiries -/

theorem takeLevelChange_only (l : Line) (s : State) : OnlyEvents s (takeLevelChange l s) := by
  unfold takeLevelChange
  simp only []
  split
  · have hf : ∀ f, OnlyEvents s (setFilter l f s) := by
      intro f
      cases l <;> constructor <;> rfl
    have ho : ∀ b t, OnlyEvents t (ownerOnChange l b t) := by
      intro b t
      cases l with
      | presence i =>
        simp only [ownerOnChange, seatVacate]
        split <;> first | exact (changePhase_only _ _ _).owners.events | exact OnlyEvents.refl
      | grip h n => exact OnlyEvents.refl
    exact (hf _).trans ((ho _ _).trans (compareLine_only _ _).owners.events)
  · exact OnlyEvents.refl

theorem takeSeatExpiry_only (i : SocketIx) (s : State) : OnlyOwners s (takeSeatExpiry i s) := by
  unfold takeSeatExpiry
  split
  · exact ((changePhase_only _ _ _).trans (giveCauseOnline_only _ _ _)).owners.trans (captureFault_only _ _).owners
  · constructor <;> rfl

theorem takeVacateExpiry_only (i : SocketIx) (s : State) : OnlyOwners s (takeVacateExpiry i s) := by
  unfold takeVacateExpiry
  split
  · exact ((changePhase_only _ _ _).trans (giveCauseOnline_only _ _ _)).owners.trans (captureFault_only _ _).owners
  · constructor <;> rfl

theorem socketLineFault_only (i : SocketIx) (s : State) : OnlyOwners s (socketLineFault i s) := by
  unfold socketLineFault
  simp only []
  split <;> first | exact (changePhase_only _ _ _).owners.trans (captureFault_only _ _).owners | (constructor <;> rfl)

theorem nozzleLineFault_only (h : HeadIx) (n : NozzleId) (s : State) : OnlyOwners s (nozzleLineFault h n s) := by
  unfold nozzleLineFault
  simp only []
  split <;> first | exact (setContent_only _ _ _ _).owners.trans (captureFault_only _ _).owners | (constructor <;> rfl)

theorem ownerFault_only (l : Line) (s : State) : OnlyOwners s (ownerFault l s) := by
  cases l
  · exact socketLineFault_only _ _
  · exact nozzleLineFault_only _ _ _

theorem takeDisturbExpiry_only (l : Line) (s : State) : OnlyOwners s (takeDisturbExpiry l s) := by
  unfold takeDisturbExpiry
  split
  · exact ((faultOpenEntries_only l s).trans (chargeFaulted_only l _)).owners.trans
      ((ownerFault_only l _).trans (compareLine_only l _).owners)
  · constructor <;> rfl

theorem takeRecoverExpiry_only (l : Line) (s : State) : OnlyLineRecords s (takeRecoverExpiry l s) := by
  unfold takeRecoverExpiry
  split
  · exact quietLine_only l s
  · constructor <;> rfl

theorem leaveLists_events (h : HeadIx) (s : State) : OnlyEvents s (leaveLists h s) := by
  constructor <;> dsimp only [leaveLists]

theorem leaveLists_drive (h : HeadIx) (s : State) : OnlyDriveWork s (leaveLists h s) := by
  constructor <;> dsimp only [leaveLists]

theorem setHoldTimer_events (h : HeadIx) (x : HoldTimer) (s : State) : OnlyEvents s (s.setHoldTimer h x) := by
  constructor <;> rfl

theorem setHoldTimer_drive (h : HeadIx) (x : HoldTimer) (s : State) : OnlyDriveWork s (s.setHoldTimer h x) := by
  constructor <;> rfl

theorem stopHolding_events (h : HeadIx) (s : State) : OnlyEvents s (stopHolding h s) :=
  (leaveLists_events h s).trans (setHoldTimer_events h _ _)

theorem stopHolding_drive (h : HeadIx) (s : State) : OnlyDriveWork s (stopHolding h s) :=
  (leaveLists_drive h s).trans (setHoldTimer_drive h _ _)

theorem setOrder_events (h : HeadIx) (k : SlotIx) (o : Order) (s : State) : OnlyEvents s (s.setOrder h k o) := by
  constructor <;> rfl

theorem setOrder_drive (h : HeadIx) (k : SlotIx) (o : Order) (s : State) : OnlyDriveWork s (s.setOrder h k o) := by
  constructor <;> rfl

theorem takeHoldExpiry_only (h : HeadIx) (s : State) : OnlyEvents s (takeHoldExpiry h s) := by
  unfold takeHoldExpiry
  simp only []
  split
  · split
    · exact (stopHolding_events h s).trans (setOrder_events _ _ _ _)
    · exact stopHolding_events h s
  · exact OnlyEvents.refl

theorem takeEvent_only (e : TimedEvent) (s : State) : OnlyEvents s (takeEvent e s) := by
  cases e with
  | level l => exact takeLevelChange_only l s
  | hold h => exact takeHoldExpiry_only h s
  | seat i => exact (takeSeatExpiry_only i s).events
  | vacate i => exact (takeVacateExpiry_only i s).events
  | disturb l => exact (takeDisturbExpiry_only l s).events
  | recover l => exact (takeRecoverExpiry_only l s).owners.events

theorem settleFor_only (n : Nat) (s : State) : OnlyEvents s (settleFor n s) := by
  induction n generalizing s with
  | zero => constructor <;> rfl
  | succ n ih =>
    unfold settleFor
    split
    · constructor <;> rfl
    · refine OnlyEvents.trans (t := { s with freeDraws := s.freeDraws + 1 }) (by constructor <;> rfl) ?_
      exact (takeEvent_only _ _).trans (ih _)

theorem settle_only (s : State) : OnlyEvents s (settle s) := settleFor_only 128 s

/-! ### Fetches -/

theorem answer_drive (h : HeadIx) (w : Word) (s : State) : OnlyDriveWork s (answer h w s) := by
  constructor <;> rfl

theorem advanceFetch_drive (h : HeadIx) (s : State) : OnlyDriveWork s (advanceFetch h s) := by
  constructor <;> rfl

theorem refuseAtFetch_drive (h : HeadIx) (k : SlotIx) (r : Reason) (s : State) :
    OnlyDriveWork s (refuseAtFetch h k r s) :=
  (stopHolding_drive h s).trans ((setOrder_drive h k _ _).trans ((advanceFetch_drive h _).trans (answer_drive h _ _)))

theorem keepHeld_drive (h : HeadIx) (k : SlotIx) (s : State) : OnlyDriveWork s (keepHeld h k s) :=
  (setOrder_drive h k _ s).trans (answer_drive h _ _)

theorem enterHeld_drive (h : HeadIx) (k : SlotIx) (st : OrderState) (b : Bool) (s : State) :
    OnlyDriveWork s (enterHeld h k st b s) := by
  have key : ∀ t, OnlyDriveWork t (if waitCycle t then refuseAtFetch h k .deadlock t else keepHeld h k t) := by
    intro t
    by_cases hc : waitCycle t = true
    · rw [if_pos hc]
      exact refuseAtFetch_drive _ _ _ _
    · rw [if_neg hc]
      exact keepHeld_drive _ _ _
  have h1 : OnlyDriveWork s (if b then startHold h (s.setOrder h k { s.order h k with state := st })
      else s.setOrder h k { s.order h k with state := st }) := by
    split
    · exact (setOrder_drive h k _ s).trans (setHoldTimer_drive h _ _)
    · exact setOrder_drive h k _ s
  exact h1.trans (key _)

theorem joinSockets_drive (h : HeadIx) (l : List SocketIx) (s : State) : OnlyDriveWork s (joinSockets h l s) := by
  unfold joinSockets
  induction l generalizing s with
  | nil => constructor <;> rfl
  | cons i rest ih => exact OnlyDriveWork.trans (t := joinSocketList h i s) (by constructor <;> rfl) (ih _)

theorem joinZones_drive (h : HeadIx) (l : List ZoneIx) (s : State) : OnlyDriveWork s (joinZones h l s) := by
  unfold joinZones
  induction l generalizing s with
  | nil => constructor <;> rfl
  | cons z rest ih =>
    refine OnlyDriveWork.trans (t := joinZoneList h z s) ?_ (ih _)
    unfold joinZoneList
    split <;> constructor <;> rfl

theorem claimZones_drive (h : HeadIx) (l : List ZoneIx) (s : State) : OnlyDriveWork s (claimZones h l s) := by
  unfold claimZones
  induction l generalizing s with
  | nil => constructor <;> rfl
  | cons z rest ih => exact OnlyDriveWork.trans (t := claimZone h z s) (by constructor <;> rfl) (ih _)

theorem reserveSockets_drive (h : HeadIx) (k : SlotIx) (l : List SocketIx) (s : State) :
    OnlyDriveWork s (reserveSockets h k l s) := by
  unfold reserveSockets
  induction l generalizing s with
  | nil => constructor <;> rfl
  | cons i rest ih => exact OnlyDriveWork.trans (t := reserveSocket h k i s) (by constructor <;> rfl) (ih _)

theorem clearOrder_drive (h : HeadIx) (k : SlotIx) (legs : List Leg) (s : State) :
    OnlyDriveWork s (clearOrder h k legs s) := by
  have hp : ∀ l t, OnlyDriveWork t (pendTags l t) := by
    intro l t
    constructor <;> rfl
  unfold clearOrder
  simp only []
  exact (claimZones_drive h _ s).trans <| (reserveSockets_drive h k _ _).trans <| (stopHolding_drive h _).trans <|
    (hp _ _).trans <| (setOrder_drive h k _ _).trans <| (compareLines_only _ _).driveWork.trans (answer_drive h _ _)

theorem zoneStage_drive (h : HeadIx) (k : SlotIx) (legs : List Leg) (s : State) :
    OnlyDriveWork s (zoneStage h k legs s) := by
  unfold zoneStage
  simp only []
  split
  · split
    · exact refuseAtFetch_drive _ _ _ _
    · split
      · exact keepHeld_drive _ _ _
      · exact (joinZones_drive _ _ _).trans (enterHeld_drive _ _ _ _ _)
  · exact clearOrder_drive _ _ _ _

theorem evaluate_drive (h : HeadIx) (k : SlotIx) (s : State) : OnlyDriveWork s (evaluate h k s) := by
  unfold evaluate
  simp only []
  split
  · exact refuseAtFetch_drive _ _ _ _
  · split
    · split
      · exact refuseAtFetch_drive _ _ _ _
      · split
        · exact keepHeld_drive _ _ _
        · exact (joinSockets_drive _ _ _).trans (enterHeld_drive _ _ _ _ _)
    · exact zoneStage_drive _ _ _ _

theorem fetchAtIndex_drive (h : HeadIx) (k : SlotIx) (s : State) : OnlyDriveWork s (fetchAtIndex h k s) := by
  have hp : ∀ r, OnlyDriveWork s (passOver h k r s) := by
    intro r
    unfold passOver
    split <;> constructor <;> rfl
  have hl : OnlyDriveWork s (fetchLive h k s) := by
    unfold fetchLive
    split
    · constructor <;> rfl
    · split
      · constructor <;> rfl
      · exact evaluate_drive _ _ _
  unfold fetchAtIndex
  split <;> first | exact hp _ | exact hl | (constructor <;> rfl)

theorem fetchOutOfOrder_drive (h : HeadIx) (k : SlotIx) (s : State) : OnlyDriveWork s (fetchOutOfOrder h k s) := by
  unfold fetchOutOfOrder
  refine OnlyDriveWork.trans (t := countFetchOrder h s) (by constructor <;> rfl) ?_
  exact (captureFault_only _ _).owners.driveWork.trans (answer_drive _ _ _)

/-- A fetch changes, beside what the drives' work changes, only the last grant. -/
theorem fetchHeader_drive (h : HeadIx) (k : SlotIx) (s : State) :
    OnlyDriveWork (s.grant (.drive h)) (fetchHeader h k s) := by
  unfold fetchHeader
  simp only []
  split
  · constructor <;> rfl
  · split
    · exact fetchAtIndex_drive _ _ _
    · exact fetchOutOfOrder_drive _ _ _

/-! ### Reports -/

theorem reportError_drive (h : HeadIx) (k : SlotIx) (s : State) : OnlyDriveWork s (reportError h k s) := by
  unfold reportError
  refine OnlyDriveWork.trans (t := countReportError h s) (by constructor <;> rfl) ?_
  exact ((captureFault_only _ _).owners.trans (giveCauseOnline_only _ _ _).owners).driveWork

theorem legEffect_drive (h : HeadIx) (p : NozzleId) (l : Leg) (s : State) :
    OnlyDriveWork s (legEffect h p l s).1 := by
  have hpm : ∀ i s, OnlyDriveWork s (placeMissed i s) := by
    intro i s
    unfold placeMissed
    split <;> first | (constructor <;> rfl) | exact (changePhase_only _ _ _).driveWork
  have hpk : ∀ i s, OnlyDriveWork s (pickMissed i s) := fun i s => (changePhase_only _ _ _).driveWork
  unfold legEffect
  simp only []
  split
  · unfold pickInput
    simp only []
    split <;> constructor <;> rfl
  · unfold pickSite
    split
    · exact hpk _ _
    · exact hpk _ _
    · split
      · exact (setContent_only _ _ _ _).driveWork.trans (changePhase_only _ _ _).driveWork
      · constructor <;> rfl
    · constructor <;> rfl
  · unfold placeSite
    split
    · exact hpm _ _
    · split
      · exact hpm _ _
      · split
        · constructor <;> rfl
        · split
          · exact hpm _ _
          · unfold placeUnit
            simp only []
            split
            · exact (setContent_only _ _ _ _).driveWork.trans (changePhase_only _ _ _).driveWork
            · constructor <;> rfl
  · unfold placeBin
    split
    · constructor <;> rfl
    · split
      · constructor <;> rfl
      · unfold deliverUnit
        simp only []
        split
        · split <;> constructor <;> rfl
        · constructor <;> rfl
  · constructor <;> rfl

theorem releaseTo_drive (h : HeadIx) (z : ZoneIx) (keep : List ZoneIx) (s : State) :
    OnlyDriveWork s (releaseTo h z keep s) := by
  constructor <;> dsimp only [releaseTo, setResting, releaseBut, State.setHead]

theorem setOrderState_drive (h : HeadIx) (k : SlotIx) (st : OrderState) (s : State) :
    OnlyDriveWork s (setOrderState h k st s) := setOrder_drive h k _ s

theorem dropReservationsBut_drive (h : HeadIx) (k : SlotIx) (keep : List SocketIx) (s : State) :
    OnlyDriveWork s (dropReservationsBut h k keep s) := by
  constructor <;> dsimp only [dropReservationsBut]

theorem unpendTags_drive (l : List Tag) (s : State) : OnlyDriveWork s (unpendTags l s) := by
  constructor <;> dsimp only [unpendTags]

theorem giveAbortCause_drive (c : AbortCode) (h : HeadIx) (s : State) : OnlyDriveWork s (giveAbortCause c h s) := by
  unfold giveAbortCause
  split <;> constructor <;> rfl

theorem flipPointer_drive (h : HeadIx) (legs : List Leg) (s : State) : OnlyDriveWork s (flipPointer h legs s) := by
  unfold flipPointer
  split <;> constructor <;> rfl

theorem orderDone_drive (h : HeadIx) (k : SlotIx) (legs : List Leg) (l : Leg) (s : State) :
    OnlyDriveWork s (orderDone h k legs l s) :=
  (releaseTo_drive h l.zone [] s).trans <| (flipPointer_drive h legs _).trans <|
    (setOrderState_drive h k _ _).trans (advanceFetch_drive h _)

theorem orderAborted_drive (h : HeadIx) (k : SlotIx) (c : AbortCode) (l : Leg) (after : List Leg) (s : State) :
    OnlyDriveWork s (orderAborted h k c l after s) := by
  unfold orderAborted
  simp only []
  exact (dropReservationsBut_drive h k [] s).trans <| (unpendTags_drive _ _).trans <| (giveAbortCause_drive c h _).trans <|
    (releaseTo_drive h l.zone [] _).trans <| (setOrderState_drive h k _ _).trans <| (advanceFetch_drive h _).trans
      (captureFault_only _ _).owners.driveWork

theorem completeLeg_drive (h : HeadIx) (k : SlotIx) (legs : List Leg) (j : Nat) (l : Leg) (s : State) :
    OnlyDriveWork s (completeLeg h k legs j l s) := by
  unfold completeLeg
  simp only []
  refine OnlyDriveWork.trans ?_ (compareLines_only _ _).driveWork
  have h1 : OnlyDriveWork s (dropReservationsBut h k (namedSockets s (legs.drop (j + 1)))
      (setCompleted h k (j + 1) (legEffect h (activeNozzle s h (s.order h k)) l s).1)) :=
    (legEffect_drive h _ l s).trans <| (setOrder_drive h k _ _).trans (dropReservationsBut_drive h k _ _)
  refine h1.trans ?_
  split
  · exact orderAborted_drive _ _ _ _ _ _
  · split
    · exact orderDone_drive _ _ _ _ _
    · exact releaseTo_drive _ _ _ _

theorem legFailSockets_only (l : List SocketIx) (s : State) : OnlyLineRecords s (legFailSockets l s) := by
  unfold legFailSockets
  induction l generalizing s with
  | nil => constructor <;> rfl
  | cons i rest ih => exact ((changePhase_only i _ s).trans (dropReservation_only i _)).trans (ih _)

theorem suspectNozzles_only (h : HeadIx) (p : NozzleId) (legs : List Leg) (s : State) :
    OnlyLineRecords s (suspectNozzles h p legs s) := by
  unfold suspectNozzles
  induction legs.filterMap (legNozzle p) generalizing s with
  | nil => constructor <;> rfl
  | cons n rest ih => exact (setContent_only h n _ s).trans (ih _)

theorem failLeg_drive (h : HeadIx) (k : SlotIx) (legs rest : List Leg) (l : Leg) (code : BitVec 8) (s : State) :
    OnlyDriveWork s (failLeg h k legs rest l code s) := by
  have hf : ∀ t, OnlyDriveWork t (faultHead h t) := by
    intro t
    constructor <;> rfl
  unfold failLeg
  simp only []
  exact ((legFailSockets_only _ s).trans (suspectNozzles_only h _ rest _)).driveWork.trans <|
    (unpendTags_drive _ _).trans <| (setOrderState_drive h k _ _).trans <| (hf _).trans <|
    (advanceFetch_drive h _).trans <| (captureFault_only _ _).owners.driveWork.trans
      (compareLines_only _ _).driveWork

/-- A report changes, beside what the drives' work changes, only the last grant and the memory. -/
theorem writeReport_drive (h : HeadIx) (w : Word) (s : State) :
    OnlyDriveWork (passWrite (.drive h) (reportAddr h) w s) (writeReport h w s) := by
  unfold writeReport
  simp only []
  split
  · unfold takeLegDone
    simp only []
    split
    · exact completeLeg_drive _ _ _ _ _ _
    · exact reportError_drive _ _ _
  · unfold takeLegFailed
    simp only []
    split
    · exact failLeg_drive _ _ _ _ _ _ _
    · exact reportError_drive _ _ _
  · exact reportError_drive _ _ _

end Sys2Proof.Machine
end

