-- ==== Sys2Proof/Laws/Memory.lean ====
section
/-! SUPPORT. Reading and writing the Deck Command Memory: what a read finds after a write, and that a write keeps the
canonical form. -/

namespace Sys2Proof.Machine

/-- In a memory whose addresses are all at least lo, an address below lo is unlisted. -/
theorem dcmRead_below {m : List (Nat × Word)} {lo a : Nat} (hm : dcmWfFrom lo m = true) (ha : a < lo) :
    dcmRead m a = unlistedWord := by
  induction m generalizing lo with
  | nil => rfl
  | cons p rest ih =>
    obtain ⟨b, v⟩ := p
    simp only [dcmWfFrom, Bool.and_eq_true, decide_eq_true_eq] at hm
    obtain ⟨⟨⟨h1, -⟩, -⟩, h4⟩ := hm
    have hne : a ≠ b := by omega
    simp only [dcmRead, hne, if_false]
    exact ih h4 (by omega)

/-- A read finds the word last written at its address, and elsewhere what stood before. -/
theorem dcmRead_dcmWriteFrom {m : List (Nat × Word)} {lo : Nat} (hm : dcmWfFrom lo m = true) (a : Nat) (w : Word)
    (x : Nat) : dcmRead (dcmWrite m a w) x = if x = a then w else dcmRead m x := by
  induction m generalizing lo with
  | nil =>
    simp only [dcmWrite, dcmRead]
    split <;> rename_i hw
    · subst hw; simp [dcmRead]
    · simp [dcmRead]
  | cons p rest ih =>
    obtain ⟨b, v⟩ := p
    simp only [dcmWfFrom, Bool.and_eq_true, decide_eq_true_eq] at hm
    obtain ⟨⟨⟨h1, h2⟩, h3⟩, h4⟩ := hm
    simp only [dcmWrite]
    split <;> rename_i hab
    · split <;> rename_i hw
      · subst hw
        split <;> rename_i hx
        · subst hx
          exact dcmRead_below (lo := b) (by simp [dcmWfFrom, h2, h3, h4]) hab
        · rfl
      · simp only [dcmRead]
    · split <;> rename_i hab'
      · subst hab'
        split <;> rename_i hw
        · subst hw
          split <;> rename_i hx
          · subst hx
            exact dcmRead_below h4 (by omega)
          · simp [dcmRead, hx]
        · by_cases hx : x = a <;> simp [dcmRead, hx]
      · by_cases hx : x = b
        · subst hx
          have : x ≠ a := fun e => hab' e.symm
          simp [dcmRead, this]
        · simp [dcmRead, hx, ih h4]

theorem dcmRead_dcmWrite {m : List (Nat × Word)} (hm : dcmWf m = true) (a : Nat) (w : Word) (x : Nat) :
    dcmRead (dcmWrite m a w) x = if x = a then w else dcmRead m x :=
  dcmRead_dcmWriteFrom hm a w x

theorem dcmWfFrom_dcmWrite {m : List (Nat × Word)} {lo : Nat} (hm : dcmWfFrom lo m = true) {a : Nat} (hlo : lo ≤ a)
    (ha : a < Config.dcmWords) (w : Word) : dcmWfFrom lo (dcmWrite m a w) = true := by
  induction m generalizing lo with
  | nil =>
    simp only [dcmWrite]
    split <;> rename_i hw
    · rfl
    · simp [dcmWfFrom, hlo, ha, hw]
  | cons p rest ih =>
    obtain ⟨b, v⟩ := p
    have hm' := hm
    simp only [dcmWfFrom, Bool.and_eq_true, decide_eq_true_eq] at hm
    obtain ⟨⟨⟨h1, h2⟩, h3⟩, h4⟩ := hm
    simp only [dcmWrite]
    split <;> rename_i hab
    · split <;> rename_i hw
      · exact hm'
      · have hb : a + 1 ≤ b := hab
        simp [dcmWfFrom, hlo, ha, hw, hb, h2, h3, h4]
    · split <;> rename_i hab'
      · subst hab'
        split <;> rename_i hw
        · clear ih hm'
          cases rest with
          | nil => rfl
          | cons q t =>
            obtain ⟨c, u⟩ := q
            simp only [dcmWfFrom, Bool.and_eq_true, decide_eq_true_eq] at h4 ⊢
            exact ⟨⟨⟨by omega, h4.1.1.2⟩, h4.1.2⟩, h4.2⟩
        · simp [dcmWfFrom, hlo, ha, hw, h4]
      · have : b + 1 ≤ a := by omega
        simp [dcmWfFrom, h1, h2, h3, ih h4 this]

/-- A write keeps the canonical form. -/
theorem dcmWf_dcmWrite {m : List (Nat × Word)} (hm : dcmWf m = true) {a : Nat} (ha : a < Config.dcmWords) (w : Word) :
    dcmWf (dcmWrite m a w) = true :=
  dcmWfFrom_dcmWrite hm (Nat.zero_le a) ha w

/-- The memory of the machine after reset is in canonical form. -/
theorem dcmWf_reset : dcmWf State.reset.dcm = true := rfl

/-! ### Every address the part writes lies in the memory -/

theorem controlAddr_lt : controlAddr < Config.dcmWords := by decide

theorem profilePageAddr_lt : profilePageAddr < Config.dcmWords := by decide

theorem profileAddressAddr_lt : profileAddressAddr < Config.dcmWords := by decide

theorem profileDataAddr_lt : profileDataAddr < Config.dcmWords := by decide

theorem socketCommandAddr_lt (i : SocketIx) : socketCommandAddr i < Config.dcmWords := by
  simp only [socketCommandAddr, Config.dcmWords]; omega

theorem reportAddr_lt (h : HeadIx) : reportAddr h < Config.dcmWords := by
  simp only [reportAddr, Config.dcmWords]; omega

theorem headerAddr_lt (h : HeadIx) (k : SlotIx) : headerAddr h k < Config.dcmWords := by
  simp only [headerAddr, Config.dcmWords]; omega

theorem legAddr_lt (h : HeadIx) (k : SlotIx) (j : Fin 7) : legAddr h k j < Config.dcmWords := by
  simp only [legAddr, headerAddr, Config.dcmWords]; omega

theorem addr_lt (a : Addr) : a.toNat < Config.dcmWords := by
  have := a.isLt
  simp only [Config.dcmWords]; omega

end Sys2Proof.Machine
end

