-- ==== Sys2Proof/Laws/Ops.lean ====
section
/-! SUPPORT. What each shared operation gives, said once: the line operations case by case, the capture table's three
cases, the lists and claims zone by zone and socket by socket, and that every command answers a next state. -/

namespace Sys2Proof.Machine

/-! ### Every command -/

theorem exec_next (c : Instr) (s : State) : ∃ t, exec c s = .next t := by
  cases c <;> exact ⟨_, rfl⟩

/-! ### Lines -/

theorem sensor_setSensor (l m : Line) (x : Sensor) (s : State) :
    (setSensor l x s).sensor m = if m = l then x else s.sensor m := by
  cases l with
  | presence i =>
    cases m with
    | presence j =>
      simp only [setSensor, State.sensor, State.setSocket, getElem_set_fin, Line.presence.injEq]
      split <;> rfl
    | grip h n => simp [setSensor, State.sensor, State.nozzle]
  | grip h n =>
    cases m with
    | presence j => simp [setSensor, State.sensor]
    | grip g k =>
      simp only [setSensor, State.sensor, State.nozzle_setNozzle, Line.grip.injEq]
      split <;> rfl

theorem filter_setFilter (l m : Line) (f : LineFilter) (s : State) :
    (setFilter l f s).filter m = if m = l then f else s.filter m := by
  cases l with
  | presence i =>
    cases m with
    | presence j =>
      simp only [setFilter, State.filter, State.setPresence, getElem_set_fin, Line.presence.injEq]
    | grip h n => simp [setFilter, State.filter]
  | grip h n =>
    cases m with
    | presence j => simp [setFilter, State.filter]
    | grip g k =>
      simp only [setFilter, State.filter, State.setGrip, getElem_set_fin, Line.grip.injEq]
      rcases eq_or_ne g h with rfl | hg
      · simp
      · simp [hg]

/-- A line that agrees: a DISTURBED one starts to recover, any other stays (R146, R147). -/
theorem compareLine_agrees {l : Line} {s : State} {e : Bool} (hw : watchedLevel s l = some e) (he : s.level l = e) :
    compareLine l s =
      if (s.sensor l).isDisturbed then setSensor l (.recovering (recoverTicks s)) s else s := by
  unfold compareLine
  rw [hw]
  simp only [he, if_true]
  cases s.sensor l <;> rfl

/-- A line that disagrees: a DISTURBED one stays, any other is disturbed (R146, R148). -/
theorem compareLine_disagrees {l : Line} {s : State} {e : Bool} (hw : watchedLevel s l = some e)
    (he : s.level l ≠ e) :
    compareLine l s = if (s.sensor l).isDisturbed then s else disturbLine l s := by
  unfold compareLine
  rw [hw]
  simp only [if_neg he]
  cases s.sensor l <;> rfl

/-- An unwatched line goes back to QUIET (R143). -/
theorem compareLine_unwatched {l : Line} {s : State} (hw : watchedLevel s l = none) :
    compareLine l s = if s.sensor l = .quiet then s else quietLine l s := by
  unfold compareLine
  rw [hw]
  cases h : s.sensor l <;> simp

/-- A change among LOADED, TESTING and TESTED keeps sub-state and timer (R104). -/
theorem changePhase_seated {i : SocketIx} {p : Phase} {s : State} (h : s.sockets[i].phase.seated = true)
    (hp : p.seated = true) : changePhase i p s = s.setSocket i { s.sockets[i] with phase := p } := by
  unfold changePhase
  simp only [h, hp, Bool.and_true, if_true]

/-- Every other change of a socket's state sets its line back to QUIET (R104, R143). -/
theorem changePhase_other {i : SocketIx} {p : Phase} {s : State}
    (h : ¬ (s.sockets[i].phase.seated = true ∧ p.seated = true)) :
    changePhase i p s = quietLine (.presence i) (s.setSocket i { s.sockets[i] with phase := p }) := by
  unfold changePhase
  have : (s.sockets[i].phase.seated && p.seated) = false := by
    rw [Bool.eq_false_iff]
    intro hb
    exact h (by simpa using hb)
  simp only [this, if_neg Bool.false_ne_true]

/-! ### Events -/

/-- What the part finds due is what stands due (R75, R118, R120, R140, R144). -/
theorem eventDue_iff (s : State) (e : TimedEvent) : eventDue s e = true ↔ EventDue s e := by
  cases e with
  | level l => rfl
  | hold h => simp [eventDue, EventDue, holdDue]
  | seat i =>
    simp only [eventDue, EventDue, seatDue]
    generalize s.sockets[i].phase = p
    cases p with
    | seating u h n => cases n <;> simp
    | _ => simp
  | vacate i =>
    simp only [eventDue, EventDue, vacateDue]
    generalize s.sockets[i].phase = p
    cases p with
    | vacating h n => cases n <;> simp
    | _ => simp
  | disturb l => simp [eventDue, EventDue, disturbDue, Option.isSome_iff_ne_none]
  | recover l => simp [eventDue, EventDue, recoverDue, Option.isSome_iff_ne_none]

theorem mem_allLines (l : Line) : l ∈ allLines := by
  cases l with
  | presence i => fin_cases i <;> simp [allLines, all16]
  | grip h n => fin_cases h <;> cases n <;> simp [allLines, allHeads]

theorem mem_allTimedEvents (e : TimedEvent) : e ∈ allTimedEvents := by
  have heads : ∀ h : HeadIx, h ∈ allHeads := by decide
  have sockets : ∀ i : SocketIx, i ∈ all16 := by decide
  cases e <;> simp [allTimedEvents, mem_allLines, heads, sockets]

/-- The list of events due holds each event that stands due. -/
theorem mem_dueEvents {s : State} {e : TimedEvent} : e ∈ dueEvents s ↔ EventDue s e := by
  simp [dueEvents, mem_allTimedEvents, eventDue_iff]

/-- An event is taken as the command of its own row takes it. -/
theorem exec_command (e : TimedEvent) (s : State) : exec e.command s = .next (takeEvent e s) := by
  cases e <;> rfl

theorem settleFor_of_none_due (n : Nat) {s : State} (h : dueEvents s = []) : settleFor n s = s := by
  cases n with
  | zero => rfl
  | succ n => unfold settleFor; rw [h]

/-- Whichever event due is chosen, it stands due. -/
theorem chooseEvent_mem (n : Nat) (e : TimedEvent) (rest : List TimedEvent) : chooseEvent n e rest ∈ e :: rest := by
  cases rest with
  | nil => simp [chooseEvent]
  | cons f rest =>
    simp only [chooseEvent]
    have h : Config.eventChoice n % ((f :: rest).length + 1) < (e :: f :: rest).length := Nat.mod_lt _ (Nat.succ_pos _)
    rw [List.getD_eq_getElem _ _ h]
    exact List.getElem_mem h

theorem settle_of_none_due {s : State} (h : dueEvents s = []) : settle s = s := by
  unfold settle settleFor
  rw [h]

theorem takeLevelChange_of_not_due {l : Line} {s : State} (h : (s.filter l).changeDue = false) :
    takeLevelChange l s = s := by
  unfold takeLevelChange
  simp only [h, if_neg Bool.false_ne_true]

/-! ### The capture table (R173) -/

theorem captureFault_repeat {f : FaultReport} {s : State} {i : Fin 4} (h : captureSlotOf s.capture f.kind = some i) :
    captureFault f s =
      { s with
        capture := s.capture.set i (s.capture[i].map CaptureEntry.again)
        headsSeen := match f.head with
          | some g => addBit s.headsSeen g
          | none => s.headsSeen } := by
  unfold captureFault
  rw [h]
  cases f.head <;> rfl

theorem captureFault_new {f : FaultReport} {s : State} {i : Fin 4} (h : captureSlotOf s.capture f.kind = none)
    (hi : captureFreeSlot s.capture = some i) :
    captureFault f s =
      { s with
        capture := s.capture.set i (some { report := f, repeats := 0 })
        headsSeen := match f.head with
          | some g => addBit s.headsSeen g
          | none => s.headsSeen } := by
  unfold captureFault
  rw [h, hi]
  cases f.head <;> rfl

theorem captureFault_full {f : FaultReport} {s : State} (h : captureSlotOf s.capture f.kind = none)
    (hi : captureFreeSlot s.capture = none) :
    captureFault f s =
      { s with
        overflow := true
        headsSeen := match f.head with
          | some g => addBit s.headsSeen g
          | none => s.headsSeen } := by
  unfold captureFault
  rw [h, hi]
  cases f.head <;> rfl

/-! ### Wait lists, claims and reservations -/

theorem leaveLists_zone (h : HeadIx) (s : State) (z : ZoneIx) :
    (leaveLists h s).zones[z] = { s.zones[z] with waiters := s.zones[z].waiters.filter (· != h) } := by
  simp [leaveLists]

theorem leaveLists_socket (h : HeadIx) (s : State) (i : SocketIx) :
    (leaveLists h s).socketWaiters[i] = s.socketWaiters[i].filter (· != h) := by
  simp [leaveLists]

theorem releaseBut_zone (h : HeadIx) (keep : List ZoneIx) (s : State) (z : ZoneIx) :
    (releaseBut h keep s).zones[z] =
      if s.zones[z].holder = some h ∧ keep.contains z = false then { s.zones[z] with holder := none }
      else s.zones[z] := by
  simp [releaseBut]

theorem dropReservationsBut_socket (h : HeadIx) (k : SlotIx) (keep : List SocketIx) (s : State) (i : SocketIx) :
    (dropReservationsBut h k keep s).sockets[i] =
      if s.sockets[i].reservation = some (h, k) ∧ keep.contains i = false
      then { s.sockets[i] with reservation := none } else s.sockets[i] := by
  simp [dropReservationsBut]

/-- The heads found before h in a list are those that stand before it (R69). -/
theorem mem_headsBefore {y h : HeadIx} {l : List HeadIx} : y ∈ headsBefore h l ↔ StandsBefore y h l := by
  unfold headsBefore StandsBefore
  induction l with
  | nil => simp
  | cons a l ih =>
    rcases eq_or_ne a h with rfl | ha
    · simp only [List.takeWhile_cons, bne_self_eq_false, if_neg Bool.false_ne_true, List.not_mem_nil, false_iff]
      rintro ⟨l₁, l₂, hl, hx, hy⟩
      cases l₁ with
      | nil => simp only [List.nil_append, List.cons.injEq] at hl; exact hy hl.1
      | cons b l₁ =>
        simp only [List.cons_append, List.cons.injEq] at hl
        exact hx (by simp [hl.1])
    · have : (a != h) = true := by simpa using ha
      simp only [List.takeWhile_cons, this, if_true, List.mem_cons]
      constructor
      · rintro (rfl | hy)
        · exact ⟨[], l, rfl, by simp, fun e => ha e.symm⟩
        · obtain ⟨l₁, l₂, hl, hx, hn⟩ := ih.mp hy
          exact ⟨a :: l₁, l₂, by simp [hl], by simp [hx, Ne.symm ha], hn⟩
      · rintro ⟨l₁, l₂, hl, hx, hn⟩
        cases l₁ with
        | nil => simp only [List.nil_append, List.cons.injEq] at hl; exact .inl hl.1.symm
        | cons b l₁ =>
          simp only [List.cons_append, List.cons.injEq] at hl
          exact .inr (ih.mpr ⟨l₁, l₂, hl.2, by simp at hx; simp [hx], hn⟩)

/-- Where a number falls along every wait, no circle of waiting heads closes (R73). -/
theorem noWaitCycle_of_rank {s : State} (f : HeadIx → Nat) (h : ∀ x y, WaitsOn s x y → f y < f x) :
    NoWaitCycle s := by
  intro x hx
  have hlt : ∀ {a b}, Relation.TransGen (WaitsOn s) a b → f b < f a := by
    intro a b hab
    induction hab with
    | single hw => exact h _ _ hw
    | tail _ hw ih => exact lt_trans (h _ _ hw) ih
  exact lt_irrefl _ (hlt hx)

end Sys2Proof.Machine
end

