-- ==== Sys2Proof/WellFormed.lean ====
section
/-! DEFINITION. When a command's operands fit its row of the table. Every command has a meaning whatever its
operands; a command that does not fit its row has the meaning the spec gives the same access under another row
(log 9). -/

namespace Sys2Proof

open Machine

/-- A HEAD RECOVER names an action for each nozzle; otherwise it is the row BAD_COMMAND (R12). -/
def headRecoverFits (body : BitVec 24) : Bool := (controlCommand (controlWord .headRecover body)).isSome

/-- A RESULT names a result; otherwise it is the row SOCKET_BAD_COMMAND (R107). -/
def resultFits (body : BitVec 28) : Bool := (socketWordCommand (socketWord .result body)).isSome

/-- A write whose region gives it no behaviour of its own whatever the part's state (R4). -/
def writePasses : Source → Region → Bool
  | .controller, .profileResult => true
  | .controller, .status _ => true
  | .controller, .socketState _ => true
  | .controller, .socketUnit _ => true
  | .controller, .socketNote _ => true
  | .controller, .disposition _ _ => true
  -- a header write passes in SETUP (R44)
  | .controller, .header _ _ => true
  | _, .unassigned => true
  | _, .plain => true
  | _, _ => false

/-- The operands fit the row. -/
def Instr.wellFormed : Instr → Bool
  | .headRecover body => headRecoverFits body
  | .badCommand w => (controlCommand w).isNone
  | .result _ body => resultFits body
  | .socketBadCommand _ w => (socketWordCommand w).isNone
  | .driveProtect h a _ => driveWriteSuppressed h (regionOf a)
  | .passedWrite src a _ => writePasses src (regionOf a)
  | .malformedReport _ w => reportOutcome w == .malformed
  | .powerOnReset | .tick _ _ | .filteredLevelChange _ | .holdTimerExpiry _ | .seatWindowExpiry _
  | .vacateWindowExpiry _ | .disturbanceTimerExpiry _ | .recoverCountdownExpiry _ | .modeRun _ | .modeSetup _
  | .deckReset _ | .headOnline _ | .headOffline _ | .mask _ | .maskClear _ | .drain _ | .undrain _
  | .clearTallies _ | .clearCapture _ | .clearCounters _ | .profilePageWrite _ | .profileAddressWrite _
  | .profileDataWrite _ | .profileDataRead | .statusWord0Read | .enable _ _ | .disable _ _ | .start _ _
  | .abort _ _ | .clearFault _ _ | .legWrite _ _ _ _ | .post _ _ _ | .withdraw _ _ _ | .retire _ _ _ | .fetch _ _
  | .legDone _ _ | .legFailed _ _ | .controllerReportWrite _ _ | .headerWriteSuppressed _ _ _ => true

end Sys2Proof
end

