-- ==== Sys2Proof/Tests/Slice0.lean ====
section
/-! SUPPORT. The author's own tests: one ill-formed command for each check of WellFormed, one or two small steps for each
command, and, for each statement of Obligations that has hypotheses, a state that meets them. -/

namespace Sys2Proof.Tests

open Sys2Proof Sys2Proof.Machine

/-! ### WellFormed refuses an ill-formed command, for each of its checks -/

theorem test_headRecover_without_action : (Instr.headRecover 0xC0).wellFormed = false := by decide
theorem test_badCommand_that_names_one : (Instr.badCommand 0x01000000).wellFormed = false := by decide
theorem test_result_without_result : (Instr.result 0 9).wellFormed = false := by decide
theorem test_socketBadCommand_that_names_one : (Instr.socketBadCommand 0 0x10000000).wellFormed = false := by decide
theorem test_driveProtect_of_passed_write : (Instr.driveProtect 0 0x400 0).wellFormed = false := by decide
theorem test_passedWrite_to_control_word : (Instr.passedWrite .controller 0 0).wellFormed = false := by decide
theorem test_malformedReport_of_done_leg : (Instr.malformedReport 0 0x40000000).wellFormed = false := by decide
theorem test_wellFormed_commands :
    (Instr.headRecover 0x00).wellFormed = true ∧ (Instr.badCommand 0x04000000).wellFormed = true ∧
    (Instr.result 0 8).wellFormed = true ∧ (Instr.socketBadCommand 0 0x40000009).wellFormed = true ∧
    (Instr.driveProtect 0 0x101 0).wellFormed = true ∧ (Instr.passedWrite (.drive 0) 0x400 0).wellFormed = true ∧
    (Instr.malformedReport 0 0xC0000000).wellFormed = true := by decide

theorem test_no_word_spells_a_command : decodeTableWord 32 0x01000000 = none := rfl

/-! ### States to test on -/

/-- A deck of sixteen zones in a row: PARK at both ends, INPUT in 1 and 2, SITE in 5 to 8 with four sockets each, BIN in
11 to 14 with every class in 11; four present heads that reach every zone and have two nozzles. -/
def profiled : State :=
  { State.reset with
    zonePage := Vector.ofFn (fun z =>
      { type := [1, 3, 3, 2, 2, 4, 4, 4, 4, 2, 2, 5, 5, 5, 5, 1].getD z.val 0
        classes := if z.val = 11 then 0xFF else 0
        neighbours := BitVec.ofNat 16 (2 ^ (z.val + 1) + 2 ^ z.val / 2) })
    socketPage := Vector.ofFn (fun i => { enabled := true, zone := Fin.ofNat 16 (5 + i.val / 4) })
    headPage := Vector.replicate 4 { present := true, twoNozzles := true, actions := 0, reach := 0xFFFF } }

/-- The same deck in RUN with every socket EMPTY and no head on it. -/
def deck : State :=
  { profiled with
    mode := .run
    sockets := Vector.replicate 16 { phase := .empty, reservation := none, sensor := .quiet, lastResult := .accepted } }

/-- Head h stands on the deck in zone z. -/
def stand (h : HeadIx) (z : ZoneIx) (s : State) : State :=
  (s.setHead h { HeadRec.offDeck with online := true, resting := some z }).setZone z { s.zones[z] with holder := some h }

/-- Head h has an order of the given legs in slot k. -/
def ordered (h : HeadIx) (k : SlotIx) (st : OrderState) (ls : List Leg) (s : State) : State :=
  s.setOrder h k
    { Order.freed with
      state := st, legs := Vector.ofFn (fun j => ls[j.val]?), seq := some 0, nowait := some false }

/-- Socket i is in a state. -/
def socketIn (i : SocketIx) (p : Phase) (s : State) : State := s.setSocket i { s.sockets[i] with phase := p }

/-- A line's filtered level is ON. -/
def lineOn (l : Line) (s : State) : State := setFilter l { s.filter l with filtered := true, raw := true } s

def travelTo (z : ZoneIx) : Leg := { more := false, action := .travel, zone := z, socket := 0, nozzle := .a, tag := 0 }

def pickAt (z : ZoneIx) (i : SocketIx) (t : Tag) : Leg :=
  { more := false, action := .pick, zone := z, socket := i, nozzle := .a, tag := t }

def placeAt (z : ZoneIx) (i : SocketIx) : Leg :=
  { more := false, action := .place, zone := z, socket := i, nozzle := .a, tag := 0 }

def unit5 : UnitRec := { tag := 5, insertions := 0, lastSocket := none, result := none }

/-- One head, standing in zone 4 beside the SITE zone 5. -/
def one : State := stand 0 4 deck

/-- The same head with an order cleared: TRAVEL to zone 5, then PICK at socket 0. -/
def moving : State :=
  ordered 0 0 .cleared [{ travelTo 5 with more := true }, pickAt 5 0 0] ((stand 0 4 deck).setZone 5
    { holder := some 0, waiters := [] })

/-- What a command does, when it answers a next state. -/
def after (c : Instr) (s : State) : Option State :=
  match exec c s with
  | .next t => some t
  | .fault _ => none
  | .refused _ => none

/-! ### Small steps -/

theorem test_reset_snapshot_is_zero : (formSnapshot State.reset).toList.all (· == 0) = true := by decide
theorem test_profile_is_valid : profileFailure profiled = none := by decide
theorem test_modeRun_refused : (after (.modeRun 0) State.reset).map (·.controlResult) = some .profile := by decide
theorem test_modeRun_accepted : (after (.modeRun 0) profiled).map (·.mode) = some .run := by decide
theorem test_modeSetup_with_head : (after (.modeSetup 0) one).map (·.mode) = some .setup := by decide
theorem test_deckReset : (after (.deckReset 0) moving).map (fun t => (t.order 0 0).state) = some .free := by decide
theorem test_headOnline : (after (.headOnline 0x2F3450) deck).map
    (fun t => (t.zones[15].holder, t.fetchIndex[2], t.expectedSeq[2])) = some (some 2, 3, 0x45) := by decide
theorem test_headOffline : (after (.headOffline 0) one).map (fun t => (t.zones[4].holder, t.heads[0].online)) =
    some (none, false) := by decide
theorem test_mask : (after (.mask 0) one).map (fun t => t.heads[0].causes) = some 0x20 := by decide
theorem test_drain : (after (.drain 0) deck).map (·.drain) = some true := by decide
theorem test_badCommand : (after (.badCommand 0x04000000) deck).map controlResultWord = some 0x04000008 := by decide
theorem test_pageWrite : (after (.profilePageWrite 2) State.reset).map (·.counter.page) = some .head := by decide
theorem test_addressWrite_beyond_page :
    (after (.profileAddressWrite 4) { State.reset with counter := { State.reset.counter with page := .head } }).map
      (fun t => (t.counter.entry, t.counter.overrun)) = some (3, true) := by decide
theorem test_dataWrite : (after (.profileDataWrite 0xFFFFFFFF) State.reset).map
    (fun t => (profileEntryWord t .zone 0, t.counter.entry)) = some (0xE0FFFFFF, 1) := by decide
theorem test_statusRead : (after .statusWord0Read one).map (·.controllerData) = some 0x80000000 := by decide
theorem test_enable_occupied : (after (.enable 3 0) (lineOn (.presence 3) (socketIn 3 .disabled deck))).map
    (fun t => t.sockets[3].phase.code) = some 7 := by decide
theorem test_start : (after (.start 1 0) (socketIn 1 (.loaded unit5) deck)).map (fun t => t.sockets[1].phase) =
    some (.testing unit5) := by decide
theorem test_legWrite : (after (.legWrite 1 2 0 0x95012ABC) deck).map (fun t => (t.order 1 2).legs[0]) =
    some (some { more := true, action := .pick, zone := 5, socket := 0, nozzle := .b, tag := 0xABC }) := by decide
theorem test_post_refused : (after (.post 0 0 0) deck).map (fun t => (t.order 0 0).state) =
    some (.refused .malformed) := by decide
theorem test_post_sequence : (after (.post 0 0 0x00070000) deck).map
    (fun t => ((t.order 0 0).state, t.expectedSeq[0], t.counters[0].sticky)) =
      some (.refused .sequence, 8, true) := by decide
theorem test_fetch_clears : (after (.fetch 0 0) (ordered 0 0 .posted [travelTo 3] one)).map
    (fun t => ((t.order 0 0).state, t.zones[3].holder, t.zones[4].holder)) =
      some (.cleared, some 0, some 0) := by decide
theorem test_fetch_out_of_order : (after (.fetch 0 1) one).map (fun t => t.counters[0].fetchOrder) = some 1 := by decide
theorem test_legDone : (after (.legDone 0 0) moving).map
    (fun t => ((t.order 0 0).completed, t.zones[4].holder, t.zones[5].holder)) = some (1, none, some 0) := by decide
theorem test_legFailed : (after (.legFailed 0 7) moving).map
    (fun t => (t.heads[0].faulted, t.fetchIndex[0], (t.nozzle 0 .a).content)) = some (true, 1, .suspect none) := by decide
theorem test_malformedReport : (after (.malformedReport 0 0xC0000000) one).map (fun t => t.heads[0].causes) =
    some 0x10 := by decide
theorem test_driveProtect : (after (.driveProtect 1 0x100 5) one).map (fun t => (t.counters[1].protect, t.dcm)) =
    some (1, []) := by decide
theorem test_passedWrite : (after (.passedWrite (.drive 3) 0x3FFF 5) one).map (·.dcm) = some [(0x3FFF, 5)] := by decide
theorem test_tick : (after (.tick 1 0) one).map (fun t => t.presence[0]) =
    some { raw := true, filtered := false, run := 1, changeDue := false } := by decide
theorem test_levelChange_disturbs :
    (after (.filteredLevelChange (.presence 0))
      (setFilter (.presence 0) { raw := true, filtered := false, run := 4, changeDue := true } deck)).map
      (fun t => t.sockets[0].sensor) = some (.disturbed 20) := by decide

/-! ### The hypotheses of the statements are met -/

/-- A level change of socket 0's line and head 1's hold timer both stand due. -/
def bothDue : State :=
  (setFilter (.presence 0) { raw := true, filtered := false, run := 4, changeDue := true } deck).setHoldTimer 1 (.running 0)

/-- The queue empty with nothing due, one clock and two before a tick, and with a level change and a hold timer due. -/
theorem test_hyp_idle :
    (let s := { State.reset with dividerCount := 49998 }
    let t := { State.reset with dividerCount := 49999 }
    s.pending = [] ∧ dueEvents s = [] ∧ s.dividerCount + 1 < s.divisorInForce.toNat ∧
      t.pending = [] ∧ dueEvents t = [] ∧ t.divisorInForce.toNat ≤ t.dividerCount + 1) ∧
    (let s := bothDue
    s.pending = [] ∧ dueEvents s = [.level (.presence 0), .hold 1]) := by decide

theorem test_hyp_memory : MemoryCanonical { State.reset with dcm := [(0, 1), (0x3FFF, 2)] } := by
  unfold MemoryCanonical; decide

/-- The three cases of MODE_SETUP in RUN: a held order, no work with a unit, no work without one. -/
theorem test_hyp_modeSetup :
    (let s := ordered 3 0 .zoneWait [travelTo 1] deck
    s.mode = .run ∧ ∃ h, (s.orderAt h).state.active = true) ∧
    (let s := { one with heads := one.heads.set 0 { one.heads[0] with faulted := true } }
    s.mode = .run ∧ ∃ h, headState s h = .faulted) ∧
    (let s := socketIn 15 (.loaded unit5) deck
    s.mode = .run ∧ (∀ h, (s.orderAt h).state.active = false) ∧ (∀ h, headState s h ≠ .faulted) ∧
      unitsCarried s ≠ 0) ∧
    (State.reset.mode = .setup ∧ deck.mode = .run ∧ (∀ h, (deck.orderAt h).state.active = false) ∧
      (∀ h, headState deck h ≠ .faulted) ∧ unitsCarried deck = 0) := by decide

theorem test_hyp_modeRun :
    deck.mode = .run ∧ (State.reset.mode = .setup ∧ (profileFailure State.reset).isSome = true) ∧
    (profiled.mode = .setup ∧ profileFailure profiled = none) := by decide

/-- The ends of a page, in both directions. -/
theorem test_hyp_counterMove :
    (∀ p : List Page, p = [.zone, .socket, .head, .limits] → ∀ x ∈ p, x.last ≤ x.last ∧ 0 < x.last) ∧
    ∃ up down : Counter, (up.entry.val ≤ up.page.last ∧ up.down = false ∧ up.entry.val < up.page.last) ∧
      (down.entry.val ≤ down.page.last ∧ down.down = true ∧ 0 < down.entry.val) ∧
      ∃ top bottom : Counter, (top.down = false ∧ top.entry.val = top.page.last) ∧
        (bottom.entry.val ≤ bottom.page.last ∧ bottom.down = true ∧ bottom.entry.val = 0) :=
  ⟨by rintro _ rfl; decide, ⟨.head, 2, false, false⟩, ⟨.limits, 7, true, false⟩, by decide, by decide,
    ⟨.head, 3, false, false⟩, ⟨.zone, 0, true, false⟩, by decide, by decide⟩

theorem test_hyp_addressWrite : (15 : Fin 16).val = ((0x8000000F : Word).extractLsb' 0 4).toNat := by decide

theorem test_hyp_dataWrite :
    let s := { State.reset with counter := { page := .head, entry := 3, down := false, overrun := false } }
    let t := { State.reset with counter := { page := .head, entry := 3, down := false, overrun := true } }
    deck.mode = .run ∧ (t.mode = .setup ∧ t.counter.overrun = true) ∧
    (s.mode = .setup ∧ s.counter.overrun = false ∧ s.counter.entry.val ≤ s.counter.page.last) ∧
    ¬ (Page.head = s.counter.page ∧ (0 : Fin 16) = s.counter.entry) := by decide

theorem linesFollow_of_decide {s : State}
    (h : ∀ l ∈ allLines, (match watchedLevel s l with
      | none => s.sensor l == .quiet
      | some e => (s.sensor l).isDisturbed == (s.level l != e)) = true) : LinesFollow s := by
  intro l
  have := h l (mem_allLines l)
  cases hw : watchedLevel s l with
  | none => rw [hw] at this; simpa using this
  | some e =>
    rw [hw] at this
    cases hd : (s.sensor l).isDisturbed <;> simp_all

/-- Head 3 off the deck, to be brought on in PARK zone 15; each refusal of HEAD_ONLINE has a state. -/
theorem test_hyp_headOnline :
    (LinesFollow deck ∧ (0x10#8 ++ (0x3F0000 : BitVec 24) : Word) = 0x103F0000 ∧
      (3 : HeadIx).val = ((0x103F0000 : Word).extractLsb' 20 2).toNat ∧
      (15 : ZoneIx).val = ((0x103F0000 : Word).extractLsb' 16 4).toNat ∧ deck.mode = .run ∧
      (deck.headPage[(3 : HeadIx)].present = true ∧ deck.heads[(3 : HeadIx)].online = false) ∧
      (deck.zonePage[(15 : ZoneIx)].type = 1 ∧ deck.headPage[(3 : HeadIx)].reach.getLsbD 15 = true ∧
        deck.zones[(15 : ZoneIx)].holder = none ∧ deck.zones[(15 : ZoneIx)].waiters = []) ∧
      deck.level (.grip 3 .a) = false ∧ deck.level (.grip 3 .b) = false) ∧
    (LinesFollow State.reset ∧ State.reset.mode = .setup) ∧
    (LinesFollow one ∧ one.mode = .run ∧ ¬ (one.headPage[(0 : HeadIx)].present = true ∧
      one.heads[(0 : HeadIx)].online = false)) ∧
    deck.zonePage[(1 : ZoneIx)].type ≠ 1 ∧
    (LinesFollow (lineOn (.grip 3 .b) deck) ∧ (lineOn (.grip 3 .b) deck).level (.grip 3 .b) = true) :=
  ⟨⟨linesFollow_of_decide (by decide), by decide⟩, ⟨linesFollow_of_decide (by decide), by decide⟩,
    ⟨linesFollow_of_decide (by decide), by decide⟩, by decide, linesFollow_of_decide (by decide), by decide⟩

theorem test_hyp_headOffline :
    let held := ordered 0 0 .zoneWait [travelTo 3] one
    let holding := setContent 0 .b (.holding unit5) one
    State.reset.mode = .setup ∧ (deck.mode = .run ∧ headState deck 3 = .offline) ∧
    (holding.mode = .run ∧ headState holding 0 = .idle ∧ (holding.nozzle 0 .b).content ≠ .empty) ∧
    (one.mode = .run ∧ headState one 0 = .idle ∧ (one.nozzle 0 .a).content = .empty ∧
      (one.nozzle 0 .b).content = .empty) ∧
    (held.mode = .run ∧ headState held 0 = .waiting ∧ (held.nozzle 0 .a).content = .empty ∧
      (held.nozzle 0 .b).content = .empty) := by decide

/-- A FAULTED head in zone 4 that holds zone 5 too, with a SUSPECT nozzle that carries a unit and reads ON. -/
def faulted : State :=
  lineOn (.grip 0 .a) (setContent 0 .a (.suspect (some unit5)) (((stand 0 4 deck).setZone 5
    { holder := some 0, waiters := [] }).setHead 0
      { HeadRec.offDeck with online := true, faulted := true, resting := some 4 }))

/-- A FAULTED head whose nozzle B has lost its grip on a unit. -/
def dropping : State := setSensor (.grip 0 .b) (.disturbed 3) (setContent 0 .b (.holding unit5) faulted)

theorem ordersInPlace_of_decide {s : State}
    (h : (∀ g k, (s.order g k).state.active = true → k = s.fetchIndex[g]) ∧
      ∀ g : HeadIx, ((s.orderAt g).state.active = true → s.heads[g].online = true ∧ s.heads[g].faulted = false) ∧
        (s.heads[g].faulted = true → s.heads[g].online = true)) : OrdersInPlace s :=
  fun g => ⟨h.1 g, h.2 g⟩

theorem test_hyp_headRecover :
    (OrdersInPlace faulted ∧ LinesFollow faulted ∧ faulted.mode = .run ∧ headState faulted 0 = .faulted ∧
      faulted.zones[(5 : ZoneIx)].holder = some 0 ∧ faulted.zones[(6 : ZoneIx)].holder ≠ some 0 ∧
      actionRefusal faulted 0 .a .keep = none ∧ actionRefusal faulted 0 .b .leave = none ∧
      actionRefusal faulted 0 .b .discard = none ∧ actionRefusal faulted 0 .a .leave = some .state ∧
      actionRefusal faulted 0 .a .discard = some .occupied ∧ actionRefusal faulted 0 .b .keep = some .state) ∧
    (OrdersInPlace one ∧ LinesFollow one ∧ headState one 0 = .idle ∧ one.heads[(0 : HeadIx)].resting = some 4 ∧
      headState one 1 = .offline) ∧
    (OrdersInPlace State.reset ∧ LinesFollow State.reset ∧ State.reset.mode = .setup) ∧
    (OrdersInPlace dropping ∧ LinesFollow dropping ∧ actionRefusal dropping 0 .b .discard = none ∧
      (dropping.nozzle 0 .b).content = .holding unit5 ∧ (dropping.nozzle 0 .b).sensor = .disturbed 3) ∧
    nozzleActionOfCode ((0x12050040 : Word).extractLsb' 6 2) = some .keep ∧
    nozzleActionOfCode ((0x12050040 : Word).extractLsb' 4 2) = some .leave :=
  ⟨⟨ordersInPlace_of_decide (by decide), linesFollow_of_decide (by decide), by decide⟩,
    ⟨ordersInPlace_of_decide (by decide), linesFollow_of_decide (by decide), by decide⟩,
    ⟨ordersInPlace_of_decide (by decide), linesFollow_of_decide (by decide), by decide⟩,
    ⟨ordersInPlace_of_decide (by decide), linesFollow_of_decide (by decide), by decide⟩, by decide⟩

theorem test_hyp_mask :
    State.reset.mode = .setup ∧ (deck.mode = .run ∧ deck.heads[(3 : HeadIx)].online = false) ∧
    (one.mode = .run ∧ one.heads[(0 : HeadIx)].online = true) ∧
    (3 : HeadIx).val = ((0x300000 : BitVec 24).extractLsb' 20 2).toNat := by decide

theorem unitAt_reset (c : Carrier) : unitAt State.reset c = none := by
  cases c with
  | socket i => revert i; decide
  | nozzle h n => revert h; cases n <;> decide

theorem test_hyp_tallies :
    (∀ c, unitAt State.reset c = none) ∧ unitAt (setContent 3 .b (.suspect (some unit5)) one) (.nozzle 3 .b) ≠ none :=
  ⟨unitAt_reset, by decide⟩

/-- Codes beside the named ones, and a HEAD_RECOVER whose action for A, or for B, names none. -/
theorem test_hyp_badCommand :
    (∀ c ∈ ([0x00, 0x04, 0x0F, 0x15, 0x1F, 0x23, 0x2F, 0x32, 0xFF] : List Nat),
      c ∉ [1, 2, 3, 0x10, 0x11, 0x12, 0x13, 0x14, 0x20, 0x21, 0x22, 0x30, 0x31]) ∧
    ((0x120000C0 : Word).extractLsb' 24 8 = 0x12 ∧ (0x120000C0 : Word).extractLsb' 6 2 = 3) ∧
    ((0x12000030 : Word).extractLsb' 24 8 = 0x12 ∧ (0x12000030 : Word).extractLsb' 4 2 = 3) := by decide

/-- A capture table with an entry of kind SEAT in place 3, and a full one. -/
def captured (n : Nat) : State :=
  { State.reset with
    capture := Vector.ofFn (fun i : Fin 4 =>
      if i.val < n then none
      else some { report := { kind := [FaultKind.drop, .stuck, .stray, .seat].getD i.val .drop, head := none, socket := none,
                              slot := none, detail := 0 }, repeats := 255 }) }

theorem test_hyp_capture :
    (let s := captured 3
    ∃ e, s.capture[(3 : Fin 4)] = some e ∧ e.report.kind = .seat ∧ KindsCapturedOnce s) ∧
    (let s := captured 1
    (∀ (i : Fin 4), ∀ e ∈ s.capture[i], e.report.kind ≠ .protect) ∧ s.capture[(0 : Fin 4)] = none ∧
      ∀ j : Fin 4, j < 0 → s.capture[j] ≠ none) ∧
    (let s := captured 0
    (∀ (i : Fin 4), ∀ e ∈ s.capture[i], e.report.kind ≠ .protect) ∧ ∀ i : Fin 4, s.capture[i] ≠ none) := by
  refine ⟨⟨_, rfl, rfl, ?_⟩, by decide, by decide⟩
  intro i j e f he hf _
  have h : ∀ k : Fin 4, (captured 3).capture[k] ≠ none → k = 3 := by decide
  rw [h i (by rw [he]; simp), h j (by rw [hf]; simp)]

theorem test_hyp_phaseChange :
    (∀ p q : Phase, p = .loaded unit5 → q = .tested unit5 → p.seated = true ∧ q.seated = true) ∧
    ¬ ((socketIn 0 (.loaded unit5) deck).sockets[(0 : SocketIx)].phase.seated = true ∧ Phase.empty.seated = true) ∧
    (HeadRec.offDeck.chargedOpen (.presence 15)).stray[strayIx (.presence 15)] = some .opened ∧
    HeadRec.offDeck.stray[strayIx (.grip 3 .b)] ≠ some .opened :=
  ⟨by rintro _ _ rfl rfl; decide, by decide⟩

theorem test_hyp_enableDisable :
    (deck.mode = .run ∧ (socketIn 15 .disabled deck).sockets[(15 : SocketIx)].phase = .disabled) ∧
    (deck.sockets[(15 : SocketIx)].phase = .empty ∧ deck.sockets[(15 : SocketIx)].reservation = none ∧
      deck.socketWaiters[(15 : SocketIx)] = []) ∧
    (deck.setSocketWaiters 15 [3]).socketWaiters[(15 : SocketIx)] ≠ [] ∧
    (reserveSocket 3 15 15 deck).sockets[(15 : SocketIx)].reservation ≠ none := by decide

theorem test_hyp_testCommands :
    (socketIn 0 (.loaded unit5) deck).sockets[(0 : SocketIx)].phase = .loaded unit5 ∧
    (socketIn 0 (.testing unit5) deck).sockets[(0 : SocketIx)].phase = .testing unit5 ∧
    ((7 : BitVec 28).extractLsb' 0 4).toNat = (7 : ClassIx).val ∧ (8 : BitVec 28).extractLsb' 0 4 = 8 ∧
    deck.limits.overflowClass.toNat < 8 ∧ unit5.insertions < deck.limits.retest ∧
    deck.limits.retest ≤ ({ unit5 with insertions := 2 } : UnitRec).insertions := by decide

theorem test_hyp_clearFault :
    (let s := socketIn 15 (.fault .lostDevice (some unit5)) deck
    s.mode = .run ∧ s.sockets[(15 : SocketIx)].phase = .fault .lostDevice (some unit5) ∧
      s.sockets[(15 : SocketIx)].reservation = none ∧ s.level (.presence 15) = false ∧
      (reserveSocket 3 15 15 s).sockets[(15 : SocketIx)].reservation ≠ none ∧
      (lineOn (.presence 15) s).level (.presence 15) = true) ∧
    (let s := lineOn (.presence 0) (socketIn 0 (.fault .stray none) deck)
    s.sockets[(0 : SocketIx)].phase = .fault .stray none ∧ s.level (.presence 0) = true) := by decide

theorem test_hyp_socketRefusals :
    ((0x00000000 : Word).extractLsb' 28 4).toNat = 0 ∧ 6 < ((0x70000000 : Word).extractLsb' 28 4).toNat ∧
    ((0x40000009 : Word).extractLsb' 28 4 = 4 ∧ 8 < ((0x40000009 : Word).extractLsb' 0 4).toNat) ∧
    ((8 : BitVec 28).extractLsb' 0 4).toNat ≤ 8 ∧ State.reset.mode = .setup ∧ deck.mode = .run ∧
    deck.sockets[(0 : SocketIx)].phase.code ∉ [2, 3, 6] ∧ deck.sockets[(0 : SocketIx)].phase.code ≠ 4 ∧
    (socketIn 0 (.seating unit5 0 1) deck).sockets[(0 : SocketIx)].phase.code = 2 ∧
    (socketIn 0 (.vacating 0 1) deck).sockets[(0 : SocketIx)].phase.code = 6 ∧
    (socketIn 0 (.vacating 0 1) deck).sockets[(0 : SocketIx)].phase.code ≠ 1 := by decide

theorem test_hyp_ringWrites :
    ((ordered 3 15 .posted [travelTo 1] deck).order 3 15).state.live = true ∧ (deck.order 3 15).state = .free ∧
    ((ordered 3 15 .filling [] deck).order 3 15).state = .filling ∧
    ((ordered 3 15 (.aborted .stuck) [] deck).order 3 15).state.finished = true ∧
    ((ordered 3 15 .zoneWait [] deck).order 3 15).state.held = true ∧
    (moving.order 0 0).state = .cleared ∧ deck.mode = .run ∧ (deck.order 3 15).state.live = false ∧
    ((0 : BitVec 31).extractLsb' 16 8 : Seq) = deck.expectedSeq[(3 : HeadIx)] ∧
    ((0x00FF0000 : BitVec 31).extractLsb' 16 8 : Seq) ≠ deck.expectedSeq[(3 : HeadIx)] ∧
    (0x80000000 : Word).getLsbD 31 = true ∧ (0x7FFFFFFF : Word).getLsbD 31 = false := by decide

/-- A slot with no chain, chains of one leg, and a deck for each outcome of the static checks. -/
theorem test_hyp_staticChecks :
    State.reset.headPage[(0 : HeadIx)].present = false ∧ deck.headPage[(3 : HeadIx)].present = true ∧
    (∀ legs, ¬ IsChain Order.freed legs) ∧
    (let o := (ordered 0 0 .filling [placeAt 1 0] deck).order 0 0
    IsChain o [placeAt 1 0] ∧ ChainMalformed deck 0 [placeAt 1 0]) ∧
    (IsChain ((ordered 0 0 .filling [travelTo 4] deck).order 0 0) [travelTo 4] ∧
      ¬ ChainMalformed deck 0 [travelTo 4] ∧ ¬ ChainUnreachable deck 0 [travelTo 4] ∧
      ¬ ChainBroken deck [travelTo 4]) ∧
    ChainUnreachable State.reset 0 [travelTo 4] ∧
    ChainBroken deck [{ travelTo 4 with more := true }, travelTo 6] := by
  have single : ∀ l : Leg, l.more = false → IsChain ((ordered 0 0 .filling [l] deck).order 0 0) [l] := by
    intro l hl
    refine ⟨by simp, ?_⟩
    intro j m hm
    cases j with
    | zero =>
      simp only [List.getElem?_cons_zero, Option.some.injEq] at hm
      subst hm
      refine ⟨?_, by simp [hl]⟩
      simp [ordered, State.order_setOrder]
    | succ j => simp at hm
  refine ⟨by decide, by decide, ?_, ⟨single _ rfl, 0, placeAt 1 0, rfl,
      .inr (.inr (.inl ⟨rfl, by decide, by decide⟩))⟩,
    ⟨single _ rfl, ?_, ?_, ?_⟩, ⟨travelTo 4, by simp, by decide⟩, 0, _, _, rfl, rfl, by decide, by decide⟩
  · rintro legs ⟨hne, h⟩
    cases legs with
    | nil => exact hne rfl
    | cons l rest =>
      have := (h 0 l rfl).1
      simp [Order.freed] at this
  · rintro ⟨j, l, hj, hl⟩
    cases j with
    | zero =>
      simp only [List.getElem?_cons_zero, Option.some.injEq] at hj
      subst hj
      rcases hl with h | ⟨h, _⟩ | ⟨h, _⟩ | ⟨_, h⟩ | ⟨h | h, _⟩ | ⟨h | h, _⟩ | ⟨h, _⟩
      all_goals revert h; decide
    | succ j => simp at hj
  · rintro ⟨l, hl, hr⟩
    simp only [List.mem_singleton] at hl
    subst hl
    revert hr
    decide
  · rintro ⟨j, l, m, hj, hm, _⟩
    simp at hm

/-- Both ends of every range of the drive's PROTECT and of the passed writes and reads. -/
theorem test_hyp_passedWrites :
    (∀ n ∈ ([0x01, 0x0F, 0x14, 0x3F, 0x104, 0x1FF, 0x400, 0x3FFF] : List Nat),
      (1 ≤ n ∧ n < 0x10) ∨ (0x14 ≤ n ∧ n < 0x40) ∨ (0x104 ≤ n ∧ n < 0x200) ∨ 0x400 ≤ n) ∧
    (∀ n ∈ ([0x13, 0x40, 0x7F, 0x81, 0xBF, 0xC0, 0xFF] : List Nat),
      n = 0x13 ∨ (0x40 ≤ n ∧ n < 0x80) ∨ (0x80 ≤ n ∧ n < 0xC0 ∧ n % 4 ≠ 0) ∨ (0xC0 ≤ n ∧ n < 0x100)) ∧
    (State.reset.mode = .setup ∧ ∀ n ∈ ([0x200, 0x3F8] : List Nat), 0x200 ≤ n ∧ n < 0x400 ∧ n % 8 = 0) ∧
    (∀ n ∈ ([0x00, 0x10, 0x13, 0x40, 0xFF, 0x200, 0x3FF] : List Nat),
      n = 0 ∨ (0x10 ≤ n ∧ n ≤ 0x13) ∨ (0x40 ≤ n ∧ n < 0x100) ∨ (0x200 ≤ n ∧ n < 0x400)) ∧
    (∀ n ∈ ([0x100, 0x101, 0x103] : List Nat), 0x100 ≤ n ∧ n < 0x104 ∧ n ≠ 0x100 + (2 : HeadIx).val) := by decide

theorem test_hyp_passedReads :
    (∀ n ∈ ([0x01, 0x11, 0x14, 0x3F, 0x80, 0xBF, 0x100, 0x3FFF] : List Nat),
      (1 ≤ n ∧ n < 0x12) ∨ (0x14 ≤ n ∧ n < 0x40) ∨ (0x80 ≤ n ∧ n < 0xC0 ∧ (n % 4 = 0 ∨ n % 4 = 3)) ∨ 0x100 ≤ n) ∧
    (∀ n ∈ ([0x00, 0x3F, 0x80, 0xBF, 0x100, 0x1FF, 0x201, 0x3FF, 0x400, 0x3FFF] : List Nat),
      n < 0x40 ∨ (0x80 ≤ n ∧ n < 0xC0 ∧ (n % 4 = 0 ∨ n % 4 = 3)) ∨ (0x100 ≤ n ∧ n < 0x200) ∨
        (0x200 ≤ n ∧ n < 0x400 ∧ n % 8 ≠ 0) ∨ 0x400 ≤ n) ∧
    (3 : HeadIx) ≠ 0 := by decide

theorem test_hyp_fetchSettled :
    let serving (s : State) (h : HeadIx) : Prop := s.mode = .run ∧ s.headPage[h].present = true ∧ s.heads[h].online = true
    ¬ serving State.reset 0 ∧ ¬ serving deck 3 ∧ (serving one 0 ∧ (15 : SlotIx) ≠ one.fetchIndex[(0 : HeadIx)]) ∧
    (serving one 0 ∧ (0 : SlotIx) = one.fetchIndex[(0 : HeadIx)] ∧ (one.order 0 0).state = .free) ∧
    ((ordered 0 0 (.refused .drain) [] one).order 0 0).state = .refused .drain ∧
    ((ordered 0 0 (.refused .drain) [] one).order 0 0).skipGiven = false ∧
    ((one.setOrder 0 0 { Order.freed with state := .refused .drain, skipGiven := true }).order 0 0).skipGiven = true ∧
    (moving.order 0 0).state = .cleared ∧
    (let s := ordered 0 0 .posted [travelTo 3] faulted
    serving s 0 ∧ (s.order 0 0).state.live = true ∧ (s.order 0 0).state ≠ .cleared ∧
      s.heads[(0 : HeadIx)].faulted = true) ∧
    (let s := giveCause .operator 0 (ordered 0 0 .posted [travelTo 3] one)
    serving s 0 ∧ (s.order 0 0).state.live = true ∧ (s.order 0 0).state ≠ .cleared ∧
      s.heads[(0 : HeadIx)].faulted = false ∧ s.heads[(0 : HeadIx)].causes ≠ 0) := by decide

/-- Head 0 beside TESTED socket 0, with an order to pick there; its nozzle A is EMPTY and reads ON. -/
def ready : State :=
  setSensor (.grip 0 .a) (.disturbed 7) (lineOn (.grip 0 .a)
    (ordered 0 0 .posted [pickAt 5 0 0] (lineOn (.presence 0) (socketIn 0 (.tested unit5) one))))

theorem test_hyp_fetchClears :
    (let s := ready
    let legs := [pickAt 5 0 0]
    s.mode = .run ∧ s.headPage[(0 : HeadIx)].present = true ∧ s.heads[(0 : HeadIx)].online = true ∧
    s.heads[(0 : HeadIx)].faulted = false ∧ s.heads[(0 : HeadIx)].causes = 0 ∧
    (0 : SlotIx) = s.fetchIndex[(0 : HeadIx)] ∧ (s.order 0 0).state = .posted ∧ legs = (s.order 0 0).chain ∧
    (∃ walk, refusalChecks s 0 legs = .ok walk ∧ walk.waits = false) ∧
    (∀ i ∈ namedSockets s legs, ∀ y, ¬ StandsBefore y 0 s.socketWaiters[i]) ∧
    (∀ z ∈ neededZones s 0 legs, s.zones[z].holder = some 0 ∨
      (s.zones[z].holder = none ∧ ∀ y, ¬ StandsBefore y 0 s.zones[z].waiters))) ∧
    LinesFollow ready := by
  simp only [← mem_headsBefore]
  refine ⟨⟨by decide, by decide, by decide, by decide, by decide, by decide, by decide, by decide, ⟨_, rfl, by decide⟩,
    by decide, by decide⟩, linesFollow_of_decide (by decide)⟩

/-- The line that the clearance leaves unwatched is QUIET after it. -/
theorem test_clearance_quiets_line : (after (.fetch 0 0) ready).map (fun t => (t.nozzle 0 .a).sensor) = some .quiet := by
  decide

/-- Head 0 beside zone 5, where socket 0 is LOADED, with an order to pick there. -/
def atLoaded (st : OrderState) : State :=
  ordered 0 0 st [pickAt 5 0 0] (socketIn 0 (.loaded unit5) one)

/-- Head 0 in zone 4 with an order into zone 5, where head 1 stands with an order into zone 4, held in ZONE WAIT. -/
def facing (st : OrderState) : State :=
  ordered 0 0 st [travelTo 5] (ordered 1 0 .zoneWait [travelTo 4] (stand 1 5 one))

/-- Head 0 in zone 5 beside LOADED socket 0, for which head 1 stands in line while it waits for zone 5. -/
def inLine (st : OrderState) : State :=
  ordered 0 0 st [pickAt 5 0 0] (ordered 1 0 .zoneWait [pickAt 5 0 0]
    ((socketIn 0 (.loaded unit5) (stand 0 5 (stand 1 6 deck))).setSocketWaiters 0 [1]))

theorem waitsOn_decided (s : State) (x y : HeadIx) :
    WaitsOn s x y ↔ x ≠ y ∧ (s.orderAt x).state.held = true ∧
      ((∃ i ∈ namedSockets s (s.orderAt x).chain,
          (∃ k, s.sockets[i].reservation = some (y, k)) ∨ y ∈ headsBefore x s.socketWaiters[i]) ∨
        ((s.orderAt x).state = .zoneWait ∧ ∃ z ∈ neededZones s x (s.orderAt x).chain,
          s.zones[z].holder ≠ some x ∧ (s.zones[z].holder = some y ∨ y ∈ headsBefore x s.zones[z].waiters))) := by
  simp only [WaitsOn, WaitsAtSocket, WaitsAtZone, mem_headsBefore]

theorem noWaitCycle_of_single (c : HeadIx) {s : State} (h : ∀ x, (s.orderAt x).state.held = true → x = c) :
    NoWaitCycle s := by
  refine noWaitCycle_of_rank (fun x => if x = c then 1 else 0) ?_
  rintro x y ⟨hne, hx, _⟩
  have := h x hx
  subst this
  simp [Ne.symm hne]

theorem test_hyp_fetchHoldsSocket :
    (∀ st ∈ [OrderState.posted, .socketWait, .zoneWait],
      let s := atLoaded st
      s.mode = .run ∧ s.headPage[(0 : HeadIx)].present = true ∧ s.heads[(0 : HeadIx)].online = true ∧
      s.heads[(0 : HeadIx)].faulted = false ∧ s.heads[(0 : HeadIx)].causes = 0 ∧
      (0 : SlotIx) = s.fetchIndex[(0 : HeadIx)] ∧
      (((s.order 0 0).state = .posted ∧ (s.order 0 0).nowait = some false) ∨ (s.order 0 0).state.held = true) ∧
      [pickAt 5 0 0] = (s.order 0 0).chain) ∧
    (∀ st ∈ [OrderState.posted, .socketWait, .zoneWait],
      (match refusalChecks (atLoaded st) 0 [pickAt 5 0 0] with
        | .ok walk => walk.waits
        | .error _ => false) = true) ∧
    NoWaitCycle (heldWith (atLoaded .posted) 0 0 .socketWait [0] []) ∧
    ((inLine .posted).order 0 0).state = .posted ∧ namedSockets (inLine .posted) [pickAt 5 0 0] = [0] ∧
    ¬ NoWaitCycle (heldWith (inLine .posted) 0 0 .socketWait [0] []) := by
  refine ⟨by decide, by decide, noWaitCycle_of_single 0 (by decide), by decide, by decide, ?_⟩
  intro h
  exact h 0 (.tail (.single ((waitsOn_decided _ 0 1).mpr (by decide))) ((waitsOn_decided _ 1 0).mpr (by decide)))

theorem test_hyp_fetchHoldsZone :
    (∀ st ∈ [OrderState.posted, .socketWait, .zoneWait],
      let s := facing st
      s.mode = .run ∧ s.headPage[(0 : HeadIx)].present = true ∧ s.heads[(0 : HeadIx)].online = true ∧
      s.heads[(0 : HeadIx)].faulted = false ∧ s.heads[(0 : HeadIx)].causes = 0 ∧
      (0 : SlotIx) = s.fetchIndex[(0 : HeadIx)] ∧
      (((s.order 0 0).state = .posted ∧ (s.order 0 0).nowait = some false) ∨ (s.order 0 0).state.held = true) ∧
      [travelTo 5] = (s.order 0 0).chain ∧ namedSockets s [travelTo 5] = [] ∧
      ∃ z ∈ neededZones s 0 [travelTo 5], s.zones[z].holder ≠ some 0 ∧ s.zones[z].holder ≠ none) ∧
    (∃ walk, refusalChecks (facing .posted) 0 [travelTo 5] = .ok walk ∧ walk.waits = false) ∧
    (let s := ordered 0 0 .posted [travelTo 5] (stand 1 5 one)
    NoWaitCycle (heldWith s 0 0 .zoneWait [] (neededZones s 0 [travelTo 5]))) ∧
    ¬ NoWaitCycle (heldWith (facing .posted) 0 0 .zoneWait [] (neededZones (facing .posted) 0 [travelTo 5])) := by
  refine ⟨by decide, ⟨_, rfl, by decide⟩, noWaitCycle_of_single 0 (by decide), ?_⟩
  intro h
  exact h 0 (.tail (.single ((waitsOn_decided _ 0 1).mpr (by decide))) ((waitsOn_decided _ 1 0).mpr (by decide)))

/-- The search of head 0, held for the zone that head 1 holds, finds head 1; held alone for a LOADED socket, it finds none. -/
theorem test_hyp_blocker :
    (((facing .zoneWait).orderAt 0).state.held = true ∧ (waitsOn (facing .zoneWait) 0).head? = some 1) ∧
    (((atLoaded .socketWait).orderAt 0).state.held = true ∧ (waitsOn (atLoaded .socketWait) 0).head? = none) := by decide

/-- Head 0 with a POSTED NOWAIT order into zone 5, which head 1 holds. -/
def impatient : State :=
  let s := ordered 0 0 .posted [travelTo 5] (stand 1 5 one)
  s.setOrder 0 0 { s.order 0 0 with nowait := some true }

theorem test_hyp_fetchRefuses_zone :
    (let s := impatient
    s.mode = .run ∧ s.headPage[(0 : HeadIx)].present = true ∧ s.heads[(0 : HeadIx)].online = true ∧
      s.heads[(0 : HeadIx)].faulted = false ∧ s.heads[(0 : HeadIx)].causes = 0 ∧
      (0 : SlotIx) = s.fetchIndex[(0 : HeadIx)] ∧ (s.order 0 0).state = .posted ∧ (s.order 0 0).nowait = some true ∧
      [travelTo 5] = (s.order 0 0).chain ∧ namedSockets s [travelTo 5] = [] ∧
      ∃ z ∈ neededZones s 0 [travelTo 5], s.zones[z].holder ≠ some 0 ∧ s.zones[z].holder ≠ none) ∧
    ∃ walk, refusalChecks impatient 0 [travelTo 5] = .ok walk ∧ walk.waits = false :=
  ⟨by decide, _, rfl, by decide⟩

/-- A state for each row of the refusal walk. -/
theorem test_hyp_refusalWalk :
    (∃ z, one.heads[(0 : HeadIx)].resting = some z ∧ ((5 : ZoneIx) = z ∨ one.zonePage[z].neighbours.getLsbD 5 = true)) ∧
    (¬ ∃ z, one.heads[(0 : HeadIx)].resting = some z ∧ ((9 : ZoneIx) = z ∨ one.zonePage[z].neighbours.getLsbD 9 = true)) ∧
    (travelTo 5).action = .travel ∧ ((pickAt 1 0 5).action = .pick ∧ one.zonePage[(1 : ZoneIx)].type = 3) ∧
    ((pickAt 8 15 0).action = .pick ∧ (placeAt 8 15).action = .place ∧ one.zonePage[(8 : ZoneIx)].type = 4) ∧
    ((placeAt 14 0).action = .place ∧ one.zonePage[(14 : ZoneIx)].type = 5) := by decide

theorem test_hyp_fetchRefuses :
    (let s := ordered 0 0 .posted [travelTo 9] one
    s.mode = .run ∧ s.headPage[(0 : HeadIx)].present = true ∧ s.heads[(0 : HeadIx)].online = true ∧
      s.heads[(0 : HeadIx)].faulted = false ∧ s.heads[(0 : HeadIx)].causes = 0 ∧ (s.order 0 0).state = .posted ∧
      [travelTo 9] = (s.order 0 0).chain) ∧
    refusalChecks (ordered 0 0 .posted [travelTo 9] one) 0 [travelTo 9] = .error .path ∧
    (let s := (atLoaded .posted).setOrder 0 0 { (atLoaded .posted).order 0 0 with nowait := some true }
    (s.order 0 0).state = .posted ∧ (s.order 0 0).nowait = some true ∧
      ∃ walk, refusalChecks s 0 (s.order 0 0).chain = .ok walk ∧ walk.waits = true) :=
  ⟨by decide, rfl, by decide, by decide, _, rfl, by decide⟩

/-- One state for each row of the leg effects. -/
theorem test_hyp_legEffects :
    (deck.zonePage[(1 : ZoneIx)].type = 3 ∧ deck.zonePage[(5 : ZoneIx)].type = 4 ∧ deck.zonePage[(11 : ZoneIx)].type = 5) ∧
    ((one.nozzle 0 .a).content = .empty ∧ one.level (.grip 0 .a) = false ∧
      (lineOn (.grip 0 .a) one).level (.grip 0 .a) = true) ∧
    ((setContent 0 .a (.suspect none) one).nozzle 0 .a).content.isSuspect = true ∧
    (socketIn 0 (.tested unit5) one).sockets[(0 : SocketIx)].phase.unit = some unit5 ∧
    (socketIn 0 (.vacating 3 1) one).sockets[(0 : SocketIx)].phase.isVacating = true ∧
    (socketIn 0 (.fault .seat none) one).sockets[(0 : SocketIx)].phase.isFault = true ∧
    one.sockets[(0 : SocketIx)].phase = .empty ∧
    ((setContent 0 .a (.holding { unit5 with result := some (.cls 7) }) one).nozzle 0 .a).content =
      .holding { unit5 with result := some (.cls 7) } := by decide

theorem test_hyp_report :
    headState moving 0 = .moving ∧ (0 : SlotIx) = moving.fetchIndex[(0 : HeadIx)] ∧ 0 = (moving.order 0 0).completed ∧
    (0 : SlotIx).val = ((0 : BitVec 30).extractLsb' 24 4).toNat ∧ 0 = ((0 : BitVec 30).extractLsb' 20 3).toNat ∧
    (moving.order 0 0).chain[0]? = some { travelTo 5 with more := true } ∧
    (let s := moving.setOrder 0 0 { moving.order 0 0 with completed := 1 }
    headState s 0 = .moving ∧ 1 = (s.order 0 0).completed ∧
      1 = ((0x00100000 : BitVec 30).extractLsb' 20 3).toNat ∧ (s.order 0 0).chain[1]? = some (pickAt 5 0 0)) := by
  decide

/-- Head 0 at a PLACE into socket 0, which a fault has overtaken; the nozzle's unit has left its grip. -/
def placing : State :=
  setContent 0 .a (.holding unit5) (socketIn 0 (.fault .stray none)
    (ordered 0 0 .cleared [placeAt 5 0] ((stand 0 4 deck).setZone 5 { holder := some 0, waiters := [] })))

theorem test_hyp_reportLines :
    (OrdersInPlace moving ∧ LinesFollow moving ∧ StrayFollowsSet moving) ∧
    (OrdersInPlace placing ∧ LinesFollow placing ∧ StrayFollowsSet placing ∧ headState placing 0 = .moving ∧
      (placing.order 0 0).chain[0]? = some (placeAt 5 0)) := by
  refine ⟨⟨ordersInPlace_of_decide (by decide), linesFollow_of_decide (by decide), ?_⟩,
    ordersInPlace_of_decide (by decide), linesFollow_of_decide (by decide), ?_, by decide⟩ <;>
  · unfold StrayFollowsSet; decide

/-- The aborted PLACE leaves the nozzle's line watched and disagreeing: it is DISTURBED and charged to its head. -/
theorem test_report_disturbs_line : (after (.legDone 0 0) placing).map
    (fun t => ((t.nozzle 0 .a).sensor, t.heads[0].stray[16])) = some (.disturbed 20, some .opened) := by decide

theorem test_hyp_reportRejected :
    (0x00000000 : Word).extractLsb' 30 2 = 0 ∧ (0xC0000000 : Word).extractLsb' 30 2 = 3 ∧
    (let body : BitVec 30 := 0
    ¬ (headState one 0 = .moving ∧ (body.extractLsb' 24 4).toNat = (one.fetchIndex[(0 : HeadIx)]).val ∧
      (body.extractLsb' 20 3).toNat = (one.orderAt 0).completed)) ∧
    (let body : BitVec 30 := 0x01000000
    ¬ (headState moving 0 = .moving ∧ (body.extractLsb' 24 4).toNat = (moving.fetchIndex[(0 : HeadIx)]).val ∧
      (body.extractLsb' 20 3).toNat = (moving.orderAt 0).completed)) := by decide

theorem test_hyp_tick : dueEvents moving = [] ∧ EventDue bothDue (.level (.presence 0)) ∧ EventDue bothDue (.hold 1) :=
  ⟨by decide, (eventDue_iff _ _).mp (by decide), (eventDue_iff _ _).mp (by decide)⟩

theorem test_hyp_levelChange :
    let due (l : Line) (on : Bool) (s : State) : State :=
      setFilter l { raw := on, filtered := !on, run := 4, changeDue := true } s
    (let s := due (.presence 15) true deck
    (s.filter (.presence 15)).changeDue = true ∧ watchedLevel s (.presence 15) = some false ∧
      (s.sensor (.presence 15)).isDisturbed = false ∧ (s.filter (.presence 15)).raw ≠ false) ∧
    (let s := setSensor (.grip 0 .b) (.disturbed 0) (due (.grip 0 .b) false one)
    (s.filter (.grip 0 .b)).changeDue = true ∧ watchedLevel s (.grip 0 .b) = some false ∧
      (s.sensor (.grip 0 .b)).isDisturbed = true ∧ (s.filter (.grip 0 .b)).raw = false) ∧
    (let s := due (.grip 0 .b) false one
    watchedLevel s (.grip 0 .b) = some false ∧
      ((s.filter (.grip 0 .b)).raw = false ↔ (s.sensor (.grip 0 .b)).isDisturbed = false)) ∧
    (let s := due (.presence 0) true (socketIn 0 (.seating unit5 0 0) deck)
    (s.filter (.presence 0)).changeDue = true ∧ watchedLevel s (.presence 0) = none) := by decide

theorem test_hyp_timers :
    (let s := (ordered 0 0 .zoneWait [travelTo 3] one).setHoldTimer 0 (.running 0)
    s.holdTimers[(0 : HeadIx)] = .running 0 ∧ (s.orderAt 0).state.held = true) ∧
    (socketIn 15 (.seating unit5 3 0) deck).sockets[(15 : SocketIx)].phase = .seating unit5 3 0 ∧
    (socketIn 15 (.vacating 3 0) deck).sockets[(15 : SocketIx)].phase = .vacating 3 0 ∧
    (let s := setSensor (.presence 15) (.recovering 0) deck
    watchedLevel s (.presence 15) ≠ none ∧ s.sensor (.presence 15) = .recovering 0) ∧
    (let s := setSensor (.grip 0 .b) (.disturbed 0) one
    watchedLevel s (.grip 0 .b) ≠ none ∧ s.sensor (.grip 0 .b) = .disturbed 0) := by decide

theorem test_hyp_words :
    (deck.order 3 15).completed < 8 ∧ (reserveSocket 3 15 15 deck).sockets[(15 : SocketIx)].reservation = some (3, 15) ∧
    deck.socketWaiters[(15 : SocketIx)].length < 8 ∧ deck.sockets[(15 : SocketIx)].phase.unit = none ∧
    (socketIn 0 (.testing unit5) deck).sockets[(0 : SocketIx)].phase.unit = some unit5 := by decide

theorem test_hyp_statusWords :
    let s := captured 1
    (s.capture[(0 : Fin 4)] = none ∧ s.capture[(3 : Fin 4)] ≠ none) ∧
    (giveCause .operator 3 one).heads[(3 : HeadIx)].causes ≠ 0 ∧ one.heads[(0 : HeadIx)].resting = some 4 ∧
    one.zones[(4 : ZoneIx)].holder = some 0 ∧ one.zones[(15 : ZoneIx)].waiters.length ≤ 4 ∧
    (one.nozzle 3 .b).content.unit = none ∧ ((setContent 3 .b (.holding unit5) one).nozzle 3 .b).content.unit = some unit5 ∧
    (52 ≤ 52 ∧ 63 < 64) := by decide

/-- The conditions that every step keeps hold at reset, and a step from there answers a next state. -/
theorem test_hyp_invariants :
    let s := State.reset
    (∃ t, step s = .next t) ∧ MemoryCanonical s ∧ OrdersSound s ∧ ListsInOrder s ∧ ZonesClaimed s ∧ SocketsReserved s ∧
    TagsUnique s ∧ TalliesBalance s ∧ OfflineEmpty s ∧ ResultsFollowStates s ∧ LinesFollow s ∧ StrayFollowsSet s ∧
    KindsCapturedOnce s ∧ NoWaitCycle s := by
  have left : ∀ h, legsLeft State.reset h = [] := by decide
  refine ⟨⟨_, rfl⟩, rfl, ⟨?_, ordersInPlace_of_decide (by decide), ?_, ?_⟩, ?_, ?_, ?_, ?_, ?_, ?_, ?_,
    linesFollow_of_decide (by decide), ?_, ?_, noWaitCycle_of_single 0 (by decide)⟩
  · unfold SetupStill; decide
  · unfold LiveChecked; decide
  · unfold LegsCounted; decide
  · unfold ListsInOrder; decide
  · intro h
    rw [left h]
    revert h
    decide
  · intro i h k
    rw [left h]
    revert i h k
    decide
  · refine ⟨?_, ?_, by decide, ?_, ?_⟩
    · intro c u hu
      rw [unitAt_reset] at hu
      cases hu
    · intro c d u v hu
      rw [unitAt_reset] at hu
      cases hu
    · intro t
      simp only [left]
      simp [inputTags, State.reset]
    · intro h g t ht
      rw [left] at ht
      simp [inputTags] at ht
  · unfold TalliesBalance; decide
  · unfold OfflineEmpty; decide
  · unfold ResultsFollowStates
    intro i
    have h : ∀ i : SocketIx, State.reset.sockets[i].phase = .disabled := by decide
    rw [h i]
    trivial
  · unfold StrayFollowsSet; decide
  · intro i j e f he
    have h : ∀ i : Fin 4, State.reset.capture[i] = none := by decide
    rw [h i] at he
    cases he

/-- A deck at work: head 0 MOVING from zone 4 to pick from TESTED socket 0 in zone 5, for which head 1 waits in zone 6. -/
def working : State :=
  let s := ordered 1 0 .zoneWait [travelTo 5] (reserveSocket 0 0 0 (lineOn (.presence 0)
    (socketIn 0 (.tested { unit5 with result := some .retest }) (stand 1 6 moving))))
  { (s.setZone 5 { holder := some 0, waiters := [1] }).setHoldTimer 1 (.running 2000) with picked := 1 }

theorem working_legsLeft (h : HeadIx) :
    legsLeft working h = if h = 0 then [{ travelTo 5 with more := true }, pickAt 5 0 0] else [] := by
  revert h; decide

theorem working_units (c : Carrier) :
    unitAt working c = if c = .socket 0 then some { unit5 with result := some .retest } else none := by
  cases c with
  | socket i => revert i; decide
  | nozzle h n => revert h; cases n <;> decide

/-- The same conditions hold of that deck, and a step from there answers a next state. -/
theorem test_hyp_invariants_in_run :
    let s := working
    (s.mode = .run ∧ (s.orderAt 0).state = .cleared ∧ (s.orderAt 1).state.held = true ∧ ∃ t, step s = .next t) ∧
    MemoryCanonical s ∧ OrdersSound s ∧ ListsInOrder s ∧ ZonesClaimed s ∧ SocketsReserved s ∧ TagsUnique s ∧
    TalliesBalance s ∧ OfflineEmpty s ∧ ResultsFollowStates s ∧ LinesFollow s ∧ StrayFollowsSet s ∧
    KindsCapturedOnce s ∧ NoWaitCycle s := by
  refine ⟨⟨by decide, by decide, by decide, _, rfl⟩, rfl, ⟨?_, ordersInPlace_of_decide (by decide), ?_, ?_⟩, ?_, ?_, ?_,
    ?_, ?_, ?_, ?_, linesFollow_of_decide (by decide), ?_, ?_, noWaitCycle_of_single 1 (by decide)⟩
  · intro h; revert h; decide
  · unfold LiveChecked; decide
  · unfold LegsCounted; decide
  · unfold ListsInOrder; decide
  · intro h
    rw [working_legsLeft]
    revert h
    decide
  · intro i h k
    rw [working_legsLeft]
    revert i h k
    decide
  · have none_left : ∀ h, inputTags working (legsLeft working h) = [] := by decide
    refine ⟨?_, ?_, by decide, ?_, ?_⟩
    · intro c u hu
      rw [working_units] at hu
      split at hu
      · cases hu; decide
      · cases hu
    · intro c d u v hu hv _
      rw [working_units] at hu hv
      split at hu <;> split at hv <;> simp_all
    · intro t
      simp only [none_left]
      simp [working, moving, ordered, reserveSocket, lineOn, setFilter, socketIn, stand, deck, profiled, State.reset,
        State.setOrder, State.setSocket, State.setPresence, State.setZone, State.setHead, State.setHoldTimer]
    · intro h g t ht
      rw [none_left] at ht
      cases ht
  · unfold TalliesBalance; decide
  · unfold OfflineEmpty; decide
  · intro i
    have h : ∀ i : SocketIx, (match working.sockets[i].phase with
        | .tested u => u.result.isSome
        | .empty => true
        | _ => false) = true := by decide
    have hi := h i
    revert hi
    generalize working.sockets[i].phase = p
    cases p <;> simp [Option.isSome_iff_ne_none]
  · unfold StrayFollowsSet; decide
  · intro i j e f he
    have h : ∀ i : Fin 4, working.capture[i] = none := by decide
    rw [h i] at he
    cases he

end Sys2Proof.Tests
end

/-! What every access does to the queue, the last grant and the memory, block by block and then for every command; with
it the statements that every command completes, stores one word at most, and keeps the memory's canonical form. -/

namespace Sys2Proof.Machine

/-! ### What every access does to the queue, the last grant and the memory (R2, R3) -/

/-- The memory after a store, if one is made. -/
def storeInto (m : List (Nat × Word)) : Option (Nat × Word) → List (Nat × Word)
  | some (a, w) => dcmWrite m a w
  | none => m

/-- The queue, the last grant and the memory are the same. -/
structure SameBus (s t : State) : Prop where
  pending : t.pending = s.pending
  lastGrant : t.lastGrant = s.lastGrant
  dcm : t.dcm = s.dcm

/-- From s to t the queue stays, the last grant comes to name p, and the memory takes the store. -/
structure BusEffect (p : Port) (st : Option (Nat × Word)) (s t : State) : Prop where
  pending : t.pending = s.pending
  lastGrant : t.lastGrant = p
  dcm : t.dcm = storeInto s.dcm st

section

variable {s t u : State} {p : Port} {st : Option (Nat × Word)}

theorem SameBus.refl : SameBus s s := ⟨rfl, rfl, rfl⟩

theorem SameBus.trans (h : SameBus s t) (k : SameBus t u) : SameBus s u :=
  ⟨k.pending.trans h.pending, k.lastGrant.trans h.lastGrant, k.dcm.trans h.dcm⟩

theorem OnlyCapture.sameBus (h : OnlyCapture s t) : SameBus s t := ⟨h.pending, h.lastGrant, h.dcm⟩

theorem OnlyLineRecords.sameBus (h : OnlyLineRecords s t) : SameBus s t := ⟨h.pending, h.lastGrant, h.dcm⟩

theorem OnlyOwners.sameBus (h : OnlyOwners s t) : SameBus s t := ⟨h.pending, h.lastGrant, h.dcm⟩

theorem OnlyEvents.sameBus (h : OnlyEvents s t) : SameBus s t := ⟨h.pending, h.lastGrant, h.dcm⟩

theorem OnlyDriveWork.sameBus (h : OnlyDriveWork s t) : SameBus s t := ⟨h.pending, h.lastGrant, h.dcm⟩

theorem BusEffect.of_sameBus (h : SameBus s t) : BusEffect s.lastGrant none s t := ⟨h.pending, h.lastGrant, h.dcm⟩

theorem BusEffect.then_sameBus (h : BusEffect p st s t) (k : SameBus t u) : BusEffect p st s u :=
  ⟨k.pending.trans h.pending, k.lastGrant.trans h.lastGrant, k.dcm.trans h.dcm⟩

end

theorem setZone_sameBus (z : ZoneIx) (r : ZoneRec) (s : State) : SameBus s (s.setZone z r) := ⟨rfl, rfl, rfl⟩

theorem setHead_sameBus (h : HeadIx) (r : HeadRec) (s : State) : SameBus s (s.setHead h r) := ⟨rfl, rfl, rfl⟩

theorem setPointer_sameBus (h : HeadIx) (n : NozzleId) (s : State) : SameBus s (s.setPointer h n) := ⟨rfl, rfl, rfl⟩

theorem setFetchIndex_sameBus (h : HeadIx) (k : SlotIx) (s : State) : SameBus s (s.setFetchIndex h k) :=
  ⟨rfl, rfl, rfl⟩

theorem setExpectedSeq_sameBus (h : HeadIx) (q : Seq) (s : State) : SameBus s (s.setExpectedSeq h q) :=
  ⟨rfl, rfl, rfl⟩

theorem setCounters_sameBus (h : HeadIx) (c : HeadCounters) (s : State) : SameBus s (s.setCounters h c) :=
  ⟨rfl, rfl, rfl⟩

theorem setOrder_sameBus (h : HeadIx) (k : SlotIx) (o : Order) (s : State) : SameBus s (s.setOrder h k o) :=
  ⟨rfl, rfl, rfl⟩

theorem setSocket_sameBus (i : SocketIx) (x : Socket) (s : State) : SameBus s (s.setSocket i x) := ⟨rfl, rfl, rfl⟩

theorem countDiscards_sameBus (n : Nat) (s : State) : SameBus s (countDiscards n s) := ⟨rfl, rfl, rfl⟩

theorem passWrite_bus (src : Source) (a : Nat) (w : Word) (s : State) :
    BusEffect src.port (some (a, w)) s (passWrite src a w s) := ⟨rfl, rfl, rfl⟩

theorem grant_bus (src : Source) (s : State) : BusEffect src.port none s (s.grant src) := ⟨rfl, rfl, rfl⟩

/-! ### Suppressed writes (R9, R10) -/

theorem driveProtect_bus (h : HeadIx) (s : State) : BusEffect .drive none s (driveProtect h s) :=
  (grant_bus (.drive h) s).then_sameBus <|
    SameBus.trans (t := countDriveProtect h (s.grant (.drive h))) ⟨rfl, rfl, rfl⟩ (captureFault_only _ _).sameBus

theorem controllerProtect_bus (h : HeadIx) (k : Option SlotIx) (s : State) :
    BusEffect .controller none s (controllerProtect h k s) :=
  BusEffect.then_sameBus (t := { s.grant .controller with controllerProtect := countUp s.controllerProtect })
    ⟨rfl, rfl, rfl⟩ (captureFault_only _ _).sameBus

/-! ### The profile words (R22 to R25) -/

theorem storeEntry_sameBus (w : Word) (s : State) : SameBus s (storeEntry w s) := by
  unfold storeEntry
  cases s.counter.page <;> exact ⟨rfl, rfl, rfl⟩

theorem writeDataWord_bus (w : Word) (s : State) :
    BusEffect .controller (some (profileDataAddr, w)) s (writeDataWord w s) := by
  have hstored : SameBus (passWrite .controller profileDataAddr w s)
      (moveCounter (recordAtCounter .accepted (storeEntry w (passWrite .controller profileDataAddr w s)))) :=
    (storeEntry_sameBus w _).trans ⟨rfl, rfl, rfl⟩
  unfold writeDataWord
  cases s.mode with
  | run => exact ⟨rfl, rfl, rfl⟩
  | setup =>
    cases s.counter.overrun with
    | true => exact ⟨rfl, rfl, rfl⟩
    | false => exact (passWrite_bus .controller _ w s).then_sameBus hstored

theorem readDataWord_bus (s : State) : BusEffect .controller none s (readDataWord s) := by
  unfold readDataWord
  cases s.counter.overrun <;> exact ⟨rfl, rfl, rfl⟩

/-! ### Control words (R11, R14) -/

theorem controlWrite_bus {block : State → State × ControlResult} (hblock : ∀ s, SameBus s (block s).1) (w : Word)
    (s : State) : BusEffect .controller (some (controlAddr, w)) s (controlWrite w block s) :=
  (passWrite_bus .controller controlAddr w s).then_sameBus ((hblock _).trans ⟨rfl, rfl, rfl⟩)

theorem captureStrays_only (l : List SocketIx) (s : State) : OnlyCapture s (captureStrays l s) := by
  unfold captureStrays
  induction l generalizing s with
  | nil => exact OnlyCapture.refl
  | cons i rest ih => exact (captureFault_only _ s).trans (ih _)

theorem enterRun_sameBus (s : State) : SameBus s (enterRun s) := by
  unfold enterRun
  refine SameBus.trans ?_ (captureStrays_only _ _).sameBus
  exact ⟨rfl, rfl, rfl⟩

theorem takeModeRun_sameBus (s : State) : SameBus s (takeModeRun s).1 := by
  unfold takeModeRun
  cases s.mode with
  | run => exact SameBus.refl
  | setup =>
    cases profileFailure s with
    | some f => exact ⟨rfl, rfl, rfl⟩
    | none => exact enterRun_sameBus s

theorem deckReset_sameBus (s : State) : SameBus s (deckReset s) := ⟨rfl, rfl, rfl⟩

theorem takeModeSetup_sameBus (s : State) : SameBus s (takeModeSetup s).1 := by
  unfold takeModeSetup
  cases s.mode with
  | setup => exact SameBus.refl
  | run =>
    dsimp only
    split_ifs
    · exact SameBus.refl
    · exact SameBus.refl
    · exact deckReset_sameBus s

theorem bringOnline_sameBus (h : HeadIx) (z : ZoneIx) (f : SlotIx) (q : Seq) (s : State) :
    SameBus s (bringOnline h z f q s) := by
  unfold bringOnline
  exact (setZone_sameBus z _ s).trans <| (setHead_sameBus h _ _).trans <| (setContent_only h .a _ _).sameBus.trans <|
    (setContent_only h .b _ _).sameBus.trans <| (setPointer_sameBus h .a _).trans <|
    (setFetchIndex_sameBus h f _).trans <| (setExpectedSeq_sameBus h q _).trans (compareLines_only _ _).sameBus

theorem takeHeadOnline_sameBus (w : Word) (s : State) : SameBus s (takeHeadOnline w s).1 := by
  unfold takeHeadOnline
  cases s.mode with
  | setup => exact SameBus.refl
  | run =>
    dsimp only
    split_ifs
    · exact SameBus.refl
    · exact SameBus.refl
    · exact SameBus.refl
    · exact bringOnline_sameBus _ _ _ _ s

theorem refuseWaiting_sameBus (h : HeadIx) (s : State) : SameBus s (refuseWaiting h s) := by
  unfold refuseWaiting
  split_ifs
  · exact (stopHolding_events h s).sameBus.trans (setOrder_sameBus _ _ _ _)
  · exact SameBus.refl

theorem leaveResting_sameBus (h : HeadIx) (s : State) : SameBus s (leaveResting h s) := by
  unfold leaveResting
  cases s.heads[h].resting with
  | none => exact SameBus.refl
  | some z =>
    dsimp only
    split_ifs
    · exact setZone_sameBus z _ s
    · exact SameBus.refl

theorem takeOffDeck_sameBus (h : HeadIx) (s : State) : SameBus s (takeOffDeck h s) := by
  unfold takeOffDeck
  exact (refuseWaiting_sameBus h s).trans <| (leaveResting_sameBus h _).trans <|
    (setHead_sameBus h _ _).trans (compareLines_only _ _).sameBus

theorem takeHeadOffline_sameBus (w : Word) (s : State) : SameBus s (takeHeadOffline w s).1 := by
  unfold takeHeadOffline
  cases s.mode with
  | setup => exact SameBus.refl
  | run =>
    dsimp only
    cases headState s (ctlHead w)
    case offline | moving | faulted => exact SameBus.refl
    case idle | waiting =>
      dsimp only
      split_ifs
      · dsimp only
        exact takeOffDeck_sameBus (ctlHead w) s
      · exact SameBus.refl

theorem applyAction_sameBus (h : HeadIx) (n : NozzleId) (a : NozzleAction) (s : State) :
    SameBus s (applyAction h n a s) := by
  cases a with
  | leave => exact SameBus.refl
  | keep => exact (setContent_only h n _ s).sameBus
  | discard => exact (setContent_only h n _ s).sameBus.trans (countDiscards_sameBus _ _)

theorem recoverHead_sameBus (h : HeadIx) (z : ZoneIx) (a b : NozzleAction) (s : State) :
    SameBus s (recoverHead h z a b s) := by
  unfold recoverHead
  exact (applyAction_sameBus h .a a s).trans <| (applyAction_sameBus h .b b _).trans <|
    (releaseTo_drive h z [] _).sameBus.trans <| (setHead_sameBus h _ _).trans (compareLines_only _ _).sameBus

theorem checkRecover_sameBus (h : HeadIx) (z : ZoneIx) (a b : NozzleAction) (s : State) :
    SameBus s (checkRecover h z a b s).1 := by
  unfold checkRecover
  cases headState s h
  case offline | waiting | moving => exact SameBus.refl
  case idle | faulted =>
    dsimp only
    split_ifs
    · exact SameBus.refl
    · split
      · exact SameBus.refl
      · exact SameBus.refl
      · exact recoverHead_sameBus h z a b s

theorem takeHeadRecover_sameBus (w : Word) (s : State) : SameBus s (takeHeadRecover w s).1 := by
  unfold takeHeadRecover
  split
  · cases s.mode with
    | setup => exact SameBus.refl
    | run => exact checkRecover_sameBus _ _ _ _ s
  · exact SameBus.refl

theorem takeMask_sameBus (w : Word) (s : State) : SameBus s (takeMask w s).1 := by
  unfold takeMask
  cases s.mode with
  | setup => exact SameBus.refl
  | run =>
    dsimp only
    split_ifs
    · exact (giveCause_only _ _ s).sameBus
    · exact SameBus.refl

theorem takeMaskClear_sameBus (w : Word) (s : State) : SameBus s (takeMaskClear w s).1 := by
  unfold takeMaskClear
  cases s.mode with
  | setup => exact SameBus.refl
  | run =>
    dsimp only
    split_ifs <;> exact ⟨rfl, rfl, rfl⟩

theorem takeDrain_sameBus (s : State) : SameBus s (takeDrain s).1 := by
  unfold takeDrain
  cases s.mode <;> exact ⟨rfl, rfl, rfl⟩

theorem takeClearTallies_sameBus (s : State) : SameBus s (takeClearTallies s).1 := by
  unfold takeClearTallies
  split_ifs <;> exact ⟨rfl, rfl, rfl⟩

/-- No command of R11 touches the queue, the last grant or the memory. -/
theorem commandBlock_sameBus (c : Command) (w : Word) (s : State) : SameBus s (commandBlock c w s).1 := by
  cases c with
  | modeRun => exact takeModeRun_sameBus s
  | modeSetup => exact takeModeSetup_sameBus s
  | deckReset => exact deckReset_sameBus s
  | headOnline => exact takeHeadOnline_sameBus w s
  | headOffline => exact takeHeadOffline_sameBus w s
  | headRecover => exact takeHeadRecover_sameBus w s
  | mask => exact takeMask_sameBus w s
  | maskClear => exact takeMaskClear_sameBus w s
  | drain => exact takeDrain_sameBus s
  | undrain => exact ⟨rfl, rfl, rfl⟩
  | clearTallies => exact takeClearTallies_sameBus s
  | clearCapture => exact ⟨rfl, rfl, rfl⟩
  | clearCounters => exact ⟨rfl, rfl, rfl⟩

theorem controlWrite_commandBlock_bus (c : Command) (w : Word) (s : State) :
    BusEffect .controller (some (controlAddr, w)) s (controlWrite w (commandBlock c w) s) :=
  controlWrite_bus (commandBlock_sameBus c w) w s

theorem writeControl_bus (w : Word) (s : State) :
    BusEffect .controller (some (controlAddr, w)) s (writeControl w s) := by
  refine controlWrite_bus (fun t => ?_) w s
  unfold controlAnswer
  cases controlCommand w with
  | some c => exact commandBlock_sameBus c w t
  | none => exact SameBus.refl

/-! ### Socket commands (R107) -/

/-- Every socket command, accepted, leaves the queue, the last grant and the memory. -/
theorem socketAnswer_sameBus {c : SocketCommand} {i : SocketIx} {w : Word} {s t : State}
    (h : socketAnswer c i w s = .accepted t) : SameBus s t := by
  have phase : ∀ p, SameBus s (commandPhase i p s) := fun p => (commandPhase_only i p s).sameBus
  have change : ∀ p, SameBus s (changePhase i p s) := fun p => (changePhase_only i p s).sameBus
  cases c with
  | enable =>
    simp only [socketAnswer, enableSocket] at h
    split at h
    · split_ifs at h <;> cases h
      · exact (phase _).trans (captureFault_only _ _).sameBus
      · exact phase _
    · cases h
  | disable =>
    simp only [socketAnswer, disableSocket] at h
    split at h
    · split_ifs at h
      cases h
      exact phase _
    · cases h
  | start =>
    simp only [socketAnswer, startTest] at h
    split at h <;> cases h
    exact change _
  | result =>
    simp only [socketAnswer, giveResult] at h
    split at h
    · split at h <;> cases h
      exact change _
    · cases h
  | abort =>
    simp only [socketAnswer, abortTest] at h
    split at h <;> cases h
    exact change _
  | clearFault =>
    simp only [socketAnswer, clearSocketFault] at h
    split at h
    · split_ifs at h
      split at h <;> cases h
      · exact phase _
      · exact (countDiscards_sameBus _ s).trans (commandPhase_only i _ _).sameBus
    · cases h

theorem finishSocketCommand_sameBus (c : SocketCommand) (i : SocketIx) (w : Word) (s : State) :
    SameBus s (finishSocketCommand i s (socketAnswer c i w s)) := by
  cases h : socketAnswer c i w s with
  | accepted t => exact (socketAnswer_sameBus h).trans (setSocket_sameBus i _ t)
  | refused r => exact setSocket_sameBus i _ s

theorem socketCommandWrite_bus (i : SocketIx) (w : Word) (s : State) :
    BusEffect .controller (some (socketCommandAddr i, w)) s (socketCommandWrite i w s) := by
  refine (passWrite_bus .controller (socketCommandAddr i) w s).then_sameBus ?_
  unfold socketCommandWrite
  cases socketWordCommand w with
  | none => exact setSocket_sameBus i _ _
  | some c =>
    dsimp only
    cases (passWrite .controller (socketCommandAddr i) w s).mode with
    | setup => exact setSocket_sameBus i _ _
    | run => exact finishSocketCommand_sameBus c i w _

/-! ### Ring words (R41 to R54) -/

theorem writeLeg_bus (h : HeadIx) (k : SlotIx) (j : Fin 7) (w : Word) (s : State) :
    BusEffect .controller (legStore s h k j w) s (writeLeg h k j w s) := by
  unfold writeLeg legStore
  dsimp only
  cases (s.order h k).state.live with
  | true => exact controllerProtect_bus h (some k) s
  | false => exact (passWrite_bus .controller (legAddr h k j) w s).then_sameBus (setOrder_sameBus h k _ _)

theorem sequenceError_sameBus (h : HeadIx) (k : SlotIx) (s : State) : SameBus s (sequenceError h k s) := by
  unfold sequenceError
  exact (setCounters_sameBus h _ s).trans <| (setCounters_sameBus h _ _).trans (captureFault_only _ _).sameBus

theorem postOrder_bus (h : HeadIx) (k : SlotIx) (w : Word) (s : State) :
    BusEffect .controller (some (headerAddr h k, w)) s (postOrder h k w s) := by
  refine (passWrite_bus .controller (headerAddr h k) w s).then_sameBus ?_
  unfold postOrder
  dsimp only
  split_ifs
  · exact (setExpectedSeq_sameBus h _ _).trans <| (setCounters_sameBus h _ _).trans (setOrder_sameBus h k _ _)
  · exact (setExpectedSeq_sameBus h _ _).trans <| (sequenceError_sameBus h k _).trans (setOrder_sameBus h k _ _)

theorem withdrawOrder_bus (h : HeadIx) (k : SlotIx) (w : Word) (s : State) :
    BusEffect .controller (some (headerAddr h k, w)) s (withdrawOrder h k w s) := by
  refine (passWrite_bus .controller (headerAddr h k) w s).then_sameBus ?_
  unfold withdrawOrder
  refine SameBus.trans ?_ (setOrder_sameBus h k _ _)
  split_ifs
  · exact (stopHolding_events h _).sameBus
  · exact SameBus.refl

theorem headerWithPost_bus (h : HeadIx) (k : SlotIx) (w : Word) (s : State) :
    BusEffect .controller (if (s.order h k).state.live then none else some (headerAddr h k, w)) s
      (headerWithPost h k w s) := by
  unfold headerWithPost
  split_ifs
  · exact controllerProtect_bus h (some k) s
  · exact postOrder_bus h k w s

theorem headerWithoutPost_bus (h : HeadIx) (k : SlotIx) (w : Word) (s : State) :
    BusEffect .controller (if (s.order h k).state = .cleared then none else some (headerAddr h k, w)) s
      (headerWithoutPost h k w s) := by
  unfold headerWithoutPost
  cases (s.order h k).state
  case cleared => exact controllerProtect_bus h (some k) s
  case posted | socketWait | zoneWait => exact withdrawOrder_bus h k w s
  all_goals exact ⟨rfl, rfl, rfl⟩

theorem writeHeader_bus (h : HeadIx) (k : SlotIx) (w : Word) (s : State) :
    BusEffect .controller (headerStore s h k w) s (writeHeader h k w s) := by
  unfold writeHeader headerStore headerReaches
  cases s.mode with
  | setup => exact passWrite_bus .controller (headerAddr h k) w s
  | run =>
    cases headerPost w with
    | true =>
      have hpost := headerWithPost_bus h k w s
      cases hlive : (s.order h k).state.live <;> simpa [hlive] using hpost
    | false => simpa using headerWithoutPost_bus h k w s

/-! ### Fetches and reports -/

theorem fetchHeader_bus (h : HeadIx) (k : SlotIx) (s : State) : BusEffect .drive none s (fetchHeader h k s) :=
  (grant_bus (.drive h) s).then_sameBus (fetchHeader_drive h k s).sameBus

theorem writeReport_bus (h : HeadIx) (w : Word) (s : State) :
    BusEffect .drive (some (reportAddr h, w)) s (writeReport h w s) :=
  (passWrite_bus (.drive h) (reportAddr h) w s).then_sameBus (writeReport_drive h w s).sameBus

/-! ### The map (R4): which addresses each region holds -/

/-- The word addresses of a region, as R4's table lists them. -/
inductive Region.Covers : Region → Nat → Prop where
  | control {n : Nat} : n = controlAddr → Covers .control n
  | profilePage {n : Nat} : n = profilePageAddr → Covers .profilePage n
  | profileAddress {n : Nat} : n = profileAddressAddr → Covers .profileAddress n
  | profileData {n : Nat} : n = profileDataAddr → Covers .profileData n
  | profileResult {n : Nat} : n = profileResultAddr → Covers .profileResult n
  | status {n : Nat} (i : Fin 64) : n = statusAddr i → Covers (.status i) n
  | socketCommand {n : Nat} (i : SocketIx) : n = socketCommandAddr i → Covers (.socketCommand i) n
  | socketState {n : Nat} (i : SocketIx) : n = socketStateAddr i → Covers (.socketState i) n
  | socketUnit {n : Nat} (i : SocketIx) : n = socketUnitAddr i → Covers (.socketUnit i) n
  | socketNote {n : Nat} (i : SocketIx) : n = 0x0083 + 4 * i.val → Covers (.socketNote i) n
  | disposition {n : Nat} (h : HeadIx) (k : SlotIx) : n = dispositionAddr h k → Covers (.disposition h k) n
  | report {n : Nat} (h : HeadIx) : n = reportAddr h → Covers (.report h) n
  | header {n : Nat} (h : HeadIx) (k : SlotIx) : n = headerAddr h k → Covers (.header h k) n
  | leg {n : Nat} (h : HeadIx) (k : SlotIx) (j : Fin 7) : n = legAddr h k j → Covers (.leg h k j) n
  | unassigned {n : Nat} : (1 ≤ n ∧ n < 0x10) ∨ (0x14 ≤ n ∧ n < 0x40) ∨ (0x104 ≤ n ∧ n < 0x200) →
      Covers .unassigned n
  | plain {n : Nat} : 0x400 ≤ n → Covers .plain n

theorem socketRegion_covers {m n : Nat} (hn : n = 0x80 + m) (hm : m < 0x40) : (socketRegion m).Covers n := by
  have hi : (Fin.ofNat 16 (m / 4)).val = m / 4 := Nat.mod_eq_of_lt (by omega)
  obtain hw | hw | hw | hw : m % 4 = 0 ∨ m % 4 = 1 ∨ m % 4 = 2 ∨ m % 4 = 3 := by omega
  all_goals
    simp only [socketRegion, hw]
    constructor
    simp only [socketCommandAddr, socketStateAddr, socketUnitAddr, hi]
    omega

theorem ringRegion_covers {m n : Nat} (hn : n = 0x200 + m) (hm : m < 0x200) : (ringRegion m).Covers n := by
  have hh : (Fin.ofNat 4 (m / 128)).val = m / 128 := Nat.mod_eq_of_lt (by omega)
  have hk : (Fin.ofNat 16 (m / 8 % 16)).val = m / 8 % 16 := Nat.mod_eq_of_lt (by omega)
  unfold ringRegion
  dsimp only
  split
  next hw =>
    refine .header _ _ ?_
    simp only [headerAddr, hh, hk]
    omega
  next w hw =>
    have hj : (Fin.ofNat 7 w).val = w := Nat.mod_eq_of_lt (by omega)
    refine .leg _ _ _ ?_
    simp only [legAddr, headerAddr, hh, hk, hj]
    omega

theorem status_covers {n : Nat} (h : 0x40 ≤ n) (hn : n < 0x80) :
    (Region.status (Fin.ofNat 64 (n - 0x40))).Covers n := by
  have hi : (Fin.ofNat 64 (n - 0x40)).val = n - 0x40 := Nat.mod_eq_of_lt (by omega)
  refine .status _ ?_
  simp only [statusAddr, hi]
  omega

theorem disposition_covers {n : Nat} (h : 0xC0 ≤ n) (hn : n < 0x100) :
    (Region.disposition (Fin.ofNat 4 ((n - 0xC0) / 16)) (Fin.ofNat 16 (n - 0xC0))).Covers n := by
  have hh : (Fin.ofNat 4 ((n - 0xC0) / 16)).val = (n - 0xC0) / 16 := Nat.mod_eq_of_lt (by omega)
  have hk : (Fin.ofNat 16 (n - 0xC0)).val = (n - 0xC0) % 16 := rfl
  refine .disposition _ _ ?_
  simp only [dispositionAddr, hh, hk]
  omega

theorem report_covers {n : Nat} (h : 0x100 ≤ n) (hn : n < 0x104) :
    (Region.report (Fin.ofNat 4 (n - 0x100))).Covers n := by
  have hh : (Fin.ofNat 4 (n - 0x100)).val = n - 0x100 := Nat.mod_eq_of_lt (by omega)
  refine .report _ ?_
  simp only [reportAddr, hh]
  omega

/-- A choice between two regions covers what the region chosen covers. -/
theorem covers_ite {c : Prop} [Decidable c] {r q : Region} {n : Nat} (hr : c → r.Covers n) (hq : ¬ c → q.Covers n) :
    (if c then r else q).Covers n := by
  by_cases h : c
  · rw [if_pos h]
    exact hr h
  · rw [if_neg h]
    exact hq h

/-- Every address lies in the region it falls in. -/
theorem regionOf_covers (a : Addr) : (regionOf a).Covers a.toNat := by
  unfold regionOf
  generalize a.toNat = n
  exact covers_ite .control fun h0 => covers_ite .profilePage fun h10 => covers_ite .profileAddress fun h11 =>
    covers_ite .profileData fun h12 => covers_ite .profileResult fun h13 =>
    covers_ite (fun h40 => .unassigned (by omega)) fun h40 =>
    covers_ite (fun h80 => status_covers (by omega) h80) fun h80 =>
    covers_ite (fun hC0 => socketRegion_covers (by omega) (by omega)) fun hC0 =>
    covers_ite (fun h100 => disposition_covers (by omega) h100) fun h100 =>
    covers_ite (fun h104 => report_covers (by omega) h104) fun h104 =>
    covers_ite (fun h200 => .unassigned (by omega)) fun h200 =>
    covers_ite (fun h400 => ringRegion_covers (by omega) (by omega)) fun h400 => .plain (by omega)

/-! ### Each named address falls in its own region -/

theorem regionOf_of_status_range {a : Addr} (h : 0x40 ≤ a.toNat) (h' : a.toNat < 0x80) :
    regionOf a = .status (Fin.ofNat 64 (a.toNat - 0x40)) := by
  simp (disch := omega) only [regionOf, if_neg, if_pos]

theorem regionOf_of_socket_range {a : Addr} (h : 0x80 ≤ a.toNat) (h' : a.toNat < 0xC0) :
    regionOf a = socketRegion (a.toNat - 0x80) := by
  simp (disch := omega) only [regionOf, if_neg, if_pos]

theorem regionOf_of_disposition_range {a : Addr} (h : 0xC0 ≤ a.toNat) (h' : a.toNat < 0x100) :
    regionOf a = .disposition (Fin.ofNat 4 ((a.toNat - 0xC0) / 16)) (Fin.ofNat 16 (a.toNat - 0xC0)) := by
  simp (disch := omega) only [regionOf, if_neg, if_pos]

theorem regionOf_of_ring_range {a : Addr} (h : 0x200 ≤ a.toNat) (h' : a.toNat < 0x400) :
    regionOf a = ringRegion (a.toNat - 0x200) := by
  simp (disch := omega) only [regionOf, if_neg, if_pos]

theorem regionOf_of_unassigned_range {a : Addr} (h : (1 ≤ a.toNat ∧ a.toNat < 0x10) ∨
    (0x14 ≤ a.toNat ∧ a.toNat < 0x40) ∨ (0x104 ≤ a.toNat ∧ a.toNat < 0x200)) : regionOf a = .unassigned := by
  by_cases hlow : a.toNat < 0x40
  · simp (disch := omega) only [regionOf, if_neg, if_pos]
  · simp (disch := omega) only [regionOf, if_neg, if_pos]

theorem regionOf_of_plain_range {a : Addr} (h : 0x400 ≤ a.toNat) : regionOf a = .plain := by
  simp (disch := omega) only [regionOf, if_neg]

theorem regionOf_status (n : Fin 64) : regionOf (BitVec.ofNat 14 (0x40 + n)) = .status n := by
  have ha : (BitVec.ofNat 14 (0x40 + n)).toNat = 0x40 + n := Nat.mod_eq_of_lt (by omega)
  rw [regionOf_of_status_range (by omega) (by omega), ha, Nat.add_sub_cancel_left, Fin.ofNat_val_eq_self]

theorem regionOf_socketState (i : SocketIx) : regionOf (BitVec.ofNat 14 (0x81 + 4 * i)) = .socketState i := by
  have ha : (BitVec.ofNat 14 (0x81 + 4 * i)).toNat = 0x81 + 4 * i := Nat.mod_eq_of_lt (by omega)
  have hw : (0x81 + 4 * i.val - 0x80) % 4 = 1 := by omega
  have hi : (0x81 + 4 * i.val - 0x80) / 4 = i := by omega
  rw [regionOf_of_socket_range (by omega) (by omega), ha]
  simp only [socketRegion, hw, hi, Fin.ofNat_val_eq_self]

theorem regionOf_socketUnit (i : SocketIx) : regionOf (BitVec.ofNat 14 (0x82 + 4 * i)) = .socketUnit i := by
  have ha : (BitVec.ofNat 14 (0x82 + 4 * i)).toNat = 0x82 + 4 * i := Nat.mod_eq_of_lt (by omega)
  have hw : (0x82 + 4 * i.val - 0x80) % 4 = 2 := by omega
  have hi : (0x82 + 4 * i.val - 0x80) / 4 = i := by omega
  rw [regionOf_of_socket_range (by omega) (by omega), ha]
  simp only [socketRegion, hw, hi, Fin.ofNat_val_eq_self]

theorem regionOf_disposition (h : HeadIx) (k : SlotIx) :
    regionOf (BitVec.ofNat 14 (0xC0 + 16 * h + k)) = .disposition h k := by
  have ha : (BitVec.ofNat 14 (0xC0 + 16 * h + k)).toNat = 0xC0 + 16 * h + k := Nat.mod_eq_of_lt (by omega)
  have hs : 0xC0 + 16 * h.val + k.val - 0xC0 = 16 * h.val + k.val := by omega
  have hh : (16 * h.val + k.val) / 16 = h := by omega
  have hk : Fin.ofNat 16 (16 * h.val + k.val) = k := Fin.ext (show (16 * h.val + k.val) % 16 = k by omega)
  rw [regionOf_of_disposition_range (by omega) (by omega), ha, hs, hh, hk, Fin.ofNat_val_eq_self]

theorem regionOf_header (h : HeadIx) (k : SlotIx) :
    regionOf (BitVec.ofNat 14 (0x200 + 128 * h + 8 * k)) = .header h k := by
  have ha : (BitVec.ofNat 14 (0x200 + 128 * h + 8 * k)).toNat = 0x200 + 128 * h + 8 * k :=
    Nat.mod_eq_of_lt (by omega)
  have hw : (0x200 + 128 * h.val + 8 * k.val - 0x200) % 8 = 0 := by omega
  have hh : (0x200 + 128 * h.val + 8 * k.val - 0x200) / 128 = h := by omega
  have hk : (0x200 + 128 * h.val + 8 * k.val - 0x200) / 8 % 16 = k := by omega
  rw [regionOf_of_ring_range (by omega) (by omega), ha]
  unfold ringRegion
  rw [hw, hh, hk, Fin.ofNat_val_eq_self, Fin.ofNat_val_eq_self]

/-! ### Every write by the map, and every command (R2, R3, R4) -/

theorem controllerWrite_bus (a : Addr) (w : Word) (s : State) :
    BusEffect .controller (writeStore s .controller a w) s (controllerWrite a w s) := by
  have hc := regionOf_covers a
  unfold controllerWrite writeStore
  generalize regionOf a = r at hc
  cases hc with
  | control h => rw [h]; exact writeControl_bus w s
  | profilePage h => rw [h]; exact ⟨rfl, rfl, rfl⟩
  | profileAddress h => rw [h]; exact ⟨rfl, rfl, rfl⟩
  | profileData h => rw [h]; exact writeDataWord_bus w s
  | socketCommand i h => rw [h]; exact socketCommandWrite_bus i w s
  | report h => exact controllerProtect_bus h none s
  | header h k => exact writeHeader_bus h k w s
  | leg h k j => exact writeLeg_bus h k j w s
  | profileResult | status | socketState | socketUnit | socketNote | disposition | unassigned | plain =>
    exact passWrite_bus .controller a.toNat w s

theorem driveWrite_bus (h : HeadIx) (a : Addr) (w : Word) (s : State) :
    BusEffect .drive (writeStore s (.drive h) a w) s (driveWrite h a w s) := by
  have hc := regionOf_covers a
  unfold driveWrite writeStore
  dsimp only
  generalize regionOf a = r at hc
  split_ifs with hs
  · exact driveProtect_bus h s
  · cases hc with
    | report g hg =>
      obtain rfl : g = h := by simpa [driveWriteSuppressed] using hs
      rw [hg]
      exact writeReport_bus g w s
    | unassigned => exact passWrite_bus (.drive h) a.toNat w s
    | plain => exact passWrite_bus (.drive h) a.toNat w s
    | _ => exact absurd rfl hs

theorem busWrite_bus (src : Source) (a : Addr) (w : Word) (s : State) :
    BusEffect src.port (writeStore s src a w) s (busWrite src a w s) := by
  cases src with
  | controller => exact controllerWrite_bus a w s
  | drive h => exact driveWrite_bus h a w s

/-- The last grant after a command: the port of its access; the Drive Port after the reset input; as it was after an
event (R2, R15). -/
def grantAfter (c : Instr) (s : State) : Port :=
  match portOf c with
  | some p => p
  | none => if c = .powerOnReset then .drive else s.lastGrant

/-- The one law of the memory path: every command answers a next state with the queue as it was, the last grant that of
its access, and in the memory just the word it stores. -/
theorem exec_bus (c : Instr) (s : State) :
    ∃ t, exec c s = .next t ∧ BusEffect (grantAfter c s) (storedWord c s) s t := by
  cases c
  case powerOnReset => exact ⟨_, rfl, rfl, rfl, rfl⟩
  case tick p g => exact ⟨_, rfl, .of_sameBus ((settle_only s).sameBus.trans ⟨rfl, rfl, rfl⟩)⟩
  case filteredLevelChange l => exact ⟨_, rfl, .of_sameBus (takeLevelChange_only l s).sameBus⟩
  case holdTimerExpiry h => exact ⟨_, rfl, .of_sameBus (takeHoldExpiry_only h s).sameBus⟩
  case seatWindowExpiry i => exact ⟨_, rfl, .of_sameBus (takeSeatExpiry_only i s).sameBus⟩
  case vacateWindowExpiry i => exact ⟨_, rfl, .of_sameBus (takeVacateExpiry_only i s).sameBus⟩
  case disturbanceTimerExpiry l => exact ⟨_, rfl, .of_sameBus (takeDisturbExpiry_only l s).sameBus⟩
  case recoverCountdownExpiry l => exact ⟨_, rfl, .of_sameBus (takeRecoverExpiry_only l s).sameBus⟩
  case modeRun b => exact ⟨_, rfl, controlWrite_commandBlock_bus .modeRun _ s⟩
  case modeSetup b => exact ⟨_, rfl, controlWrite_commandBlock_bus .modeSetup _ s⟩
  case deckReset b => exact ⟨_, rfl, controlWrite_commandBlock_bus .deckReset _ s⟩
  case headOnline b => exact ⟨_, rfl, controlWrite_commandBlock_bus .headOnline _ s⟩
  case headOffline b => exact ⟨_, rfl, controlWrite_commandBlock_bus .headOffline _ s⟩
  case headRecover b => exact ⟨_, rfl, controlWrite_commandBlock_bus .headRecover _ s⟩
  case mask b => exact ⟨_, rfl, controlWrite_commandBlock_bus .mask _ s⟩
  case maskClear b => exact ⟨_, rfl, controlWrite_commandBlock_bus .maskClear _ s⟩
  case drain b => exact ⟨_, rfl, controlWrite_commandBlock_bus .drain _ s⟩
  case undrain b => exact ⟨_, rfl, controlWrite_commandBlock_bus .undrain _ s⟩
  case clearTallies b => exact ⟨_, rfl, controlWrite_commandBlock_bus .clearTallies _ s⟩
  case clearCapture b => exact ⟨_, rfl, controlWrite_commandBlock_bus .clearCapture _ s⟩
  case clearCounters b => exact ⟨_, rfl, controlWrite_commandBlock_bus .clearCounters _ s⟩
  case badCommand w => exact ⟨_, rfl, writeControl_bus w s⟩
  case profilePageWrite w => exact ⟨_, rfl, rfl, rfl, rfl⟩
  case profileAddressWrite w => exact ⟨_, rfl, rfl, rfl, rfl⟩
  case profileDataWrite w => exact ⟨_, rfl, writeDataWord_bus w s⟩
  case profileDataRead => exact ⟨_, rfl, readDataWord_bus s⟩
  case statusWord0Read => exact ⟨_, rfl, rfl, rfl, rfl⟩
  case enable i _ | disable i _ | start i _ | result i _ | abort i _ | clearFault i _ | socketBadCommand i _ =>
    exact ⟨_, rfl, socketCommandWrite_bus i _ s⟩
  case legWrite h k j w => exact ⟨_, rfl, writeLeg_bus h k j w s⟩
  case post h k _ | withdraw h k _ | retire h k _ | headerWriteSuppressed h k _ =>
    exact ⟨_, rfl, writeHeader_bus h k _ s⟩
  case fetch h k => exact ⟨_, rfl, fetchHeader_bus h k s⟩
  case legDone h _ | legFailed h _ | malformedReport h _ => exact ⟨_, rfl, writeReport_bus h _ s⟩
  case driveProtect h a w => exact ⟨_, rfl, driveWrite_bus h a w s⟩
  case controllerReportWrite h w => exact ⟨_, rfl, controllerProtect_bus h none s⟩
  case passedWrite src a w => exact ⟨_, rfl, busWrite_bus src a w s⟩

/-! ### Every stored word lies in the memory -/

/-- The address of a store, if there is one, lies in the memory. -/
def StoreInMemory (st : Option (Nat × Word)) : Prop := ∀ p ∈ st, p.1 < Config.dcmWords

theorem storeInMemory_none : StoreInMemory none := by
  intro p hp
  cases hp

theorem storeInMemory_some {a : Nat} (ha : a < Config.dcmWords) (w : Word) : StoreInMemory (some (a, w)) := by
  intro p hp
  cases hp
  exact ha

theorem legStore_inMemory (s : State) (h : HeadIx) (k : SlotIx) (j : Fin 7) (w : Word) :
    StoreInMemory (legStore s h k j w) := by
  unfold legStore
  split_ifs
  · exact storeInMemory_none
  · exact storeInMemory_some (legAddr_lt h k j) w

theorem headerStore_inMemory (s : State) (h : HeadIx) (k : SlotIx) (w : Word) :
    StoreInMemory (headerStore s h k w) := by
  unfold headerStore
  split_ifs
  · exact storeInMemory_some (headerAddr_lt h k) w
  · exact storeInMemory_none

theorem writeStore_inMemory (s : State) (src : Source) (a : Addr) (w : Word) :
    StoreInMemory (writeStore s src a w) := by
  unfold writeStore
  cases src with
  | controller =>
    dsimp only
    cases regionOf a
    case report => exact storeInMemory_none
    case header h k => exact headerStore_inMemory s h k w
    case leg h k j => exact legStore_inMemory s h k j w
    all_goals exact storeInMemory_some (addr_lt a) w
  | drive h =>
    dsimp only
    split_ifs
    · exact storeInMemory_none
    · exact storeInMemory_some (addr_lt a) w

/-- Every command stores inside the memory. -/
theorem storedWord_inMemory (c : Instr) (s : State) : StoreInMemory (storedWord c s) := by
  cases c
  case profilePageWrite => exact storeInMemory_some profilePageAddr_lt _
  case profileAddressWrite => exact storeInMemory_some profileAddressAddr_lt _
  case profileDataWrite => exact storeInMemory_some profileDataAddr_lt _
  case enable i _ | disable i _ | start i _ | result i _ | abort i _ | clearFault i _ | socketBadCommand i _ =>
    exact storeInMemory_some (socketCommandAddr_lt i) _
  case legWrite h k j w => exact legStore_inMemory s h k j w
  case post h k _ | withdraw h k _ | retire h k _ | headerWriteSuppressed h k _ => exact headerStore_inMemory s h k _
  case legDone h _ | legFailed h _ | malformedReport h _ => exact storeInMemory_some (reportAddr_lt h) _
  case driveProtect h a w => exact writeStore_inMemory s (.drive h) a w
  case passedWrite src a w => exact writeStore_inMemory s src a w
  case modeRun | modeSetup | deckReset | headOnline | headOffline | headRecover | mask | maskClear | drain | undrain
    | clearTallies | clearCapture | clearCounters | badCommand => exact storeInMemory_some controlAddr_lt _
  all_goals exact storeInMemory_none

/-- A store inside the memory keeps its canonical form (log 5). -/
theorem dcmWf_storeInto {m : List (Nat × Word)} (hm : dcmWf m = true) {st : Option (Nat × Word)}
    (hst : StoreInMemory st) : dcmWf (storeInto m st) = true := by
  cases st with
  | none => exact hm
  | some p => exact dcmWf_dcmWrite hm (hst p rfl) p.2

/-! ### The statements on the memory path -/

theorem portClock_sameBus (s : State) : SameBus s (portClock s) := by
  refine (settle_only s).sameBus.trans ?_
  unfold portClock
  dsimp only
  split_ifs <;> exact ⟨rfl, rfl, rfl⟩

/-- Settles O48: a port clock leaves the memory, and a command stores at most one word, inside it. -/
theorem memoryStaysCanonical : Obligations.MemoryStaysCanonical := by
  unfold Obligations.MemoryStaysCanonical MemoryCanonical
  intro s t hs hstep
  unfold step at hstep
  split at hstep
  next =>
    cases hstep
    rw [(portClock_sameBus s).dcm]
    exact hs
  next c rest _ =>
    obtain ⟨u, hu, heff⟩ := exec_bus c { s with pending := rest }
    rw [hu] at hstep
    cases hstep
    rw [heff.dcm]
    exact dcmWf_storeInto hs (storedWord_inMemory c _)

theorem grantNext_both (last : Port) : ∃ p, grantNext last true true = some p ∧ p ≠ last := by
  cases last with
  | controller => exact ⟨.drive, rfl, by decide⟩
  | drive => exact ⟨.controller, rfl, by decide⟩

/-- Settles O3, by what every command does on the bus; the arbiter by its table. -/
theorem everyCommandCompletes : Obligations.EveryCommandCompletes := by
  unfold Obligations.EveryCommandCompletes
  refine ⟨fun c s => ?_, fun last => ⟨rfl, rfl, rfl, grantNext_both last⟩⟩
  obtain ⟨t, ht, heff⟩ := exec_bus c s
  exact ⟨t, ht, heff.pending, heff.lastGrant⟩

/-- Settles O4: the memory after a command is the memory before it with its one store made. -/
theorem memoryChangesOnlyWhereStored : Obligations.MemoryChangesOnlyWhereStored := by
  unfold Obligations.MemoryChangesOnlyWhereStored
  intro c s hs
  obtain ⟨t, ht, heff⟩ := exec_bus c s
  refine ⟨t, ht, ?_⟩
  have hdcm := heff.dcm
  cases hst : storedWord c s with
  | none =>
    rw [hst] at hdcm
    intro x
    rw [hdcm]
    rfl
  | some p =>
    obtain ⟨a, w⟩ := p
    have hread : ∀ x, dcmRead t.dcm x = if x = a then w else dcmRead s.dcm x := by
      intro x
      rw [hdcm, hst]
      exact dcmRead_dcmWrite hs a w x
    exact ⟨by rw [hread, if_pos rfl], fun x hx => by rw [hread, if_neg hx]⟩

end Sys2Proof.Machine

/-! The state after DECK RESET, after POWER_ON_RESET and after reset. -/

namespace Sys2Proof.Machine

/-! ### Resets (R13, R15) -/

/-- DECK_RESET clears the deck on the state with its word written, and records its code as ACCEPTED (R13, R14). -/
theorem exec_deckReset (body : BitVec 24) (s : State) :
    exec (.deckReset body) s = .next
      { deckReset (written s controlAddr (3#8 ++ body)) with
        controlCode := (3#8 ++ body).extractLsb' 24 8, controlResult := .accepted } := rfl

/-- Settles O7: the cleared state names the fields that change, and each record reads as its block is cleared to. -/
theorem deckResetClearsTheDeck : Obligations.DeckResetClearsTheDeck := by
  unfold Obligations.DeckResetClearsTheDeck
  intro body s
  refine ⟨_, exec_deckReset body s, ?_, ?_, ?_, ?_, ?_⟩
  · rfl
  · intro h k
    simp [deckReset, takeSnapshot, deckCleared, State.order]
  · intro h
    simp [deckReset, takeSnapshot, deckCleared]
  · intro z
    simp [deckReset, takeSnapshot, deckCleared]
  · intro i
    simp [deckReset, takeSnapshot, deckCleared, Socket.reset, written]

/-- The status words show the lines only by the levels of the grip lines. -/
theorem statusWords_lines (s : State) (v : Vector LineFilter 16) (g : Vector (PerNozzle LineFilter) 4)
    (hg : ∀ (h : HeadIx) (n : NozzleId), (g[h].get n).filtered = s.level (.grip h n)) :
    statusWords { s with presence := v, grips := g } = statusWords s := by
  have hn : ∀ h n, nozzleWord { s with presence := v, grips := g } h n = nozzleWord s h n := by
    intro h n
    have hl : State.level { s with presence := v, grips := g } (.grip h n) = s.level (.grip h n) := hg h n
    unfold nozzleWord
    rw [hl]
    rfl
  unfold statusWords
  simp only [hn]
  rfl

theorem formSnapshot_lines (s : State) (v : Vector LineFilter 16) (g : Vector (PerNozzle LineFilter) 4)
    (hg : ∀ (h : HeadIx) (n : NozzleId), (g[h].get n).filtered = s.level (.grip h n)) :
    formSnapshot { s with presence := v, grips := g } = formSnapshot s := by
  unfold formSnapshot
  simp only [statusWords_lines s v g hg]

theorem formSnapshot_reset : formSnapshot State.reset = Vector.replicate 64 0 := by decide

theorem vector_ofFn_getElem_eq_map {α β : Type} {n : Nat} (v : Vector α n) (f : α → β) :
    Vector.ofFn (fun i : Fin n => f v[i]) = v.map f := by
  ext i hi
  simp

/-- The reset state with what stands outside the blocks as it is in s, and with given lines (log 7, log 15). -/
def resetKeeping (s : State) (v : Vector LineFilter 16) (g : Vector (PerNozzle LineFilter) 4) : State :=
  { State.reset with
    pending := s.pending, dcm := s.dcm, controllerData := s.controllerData, driveData := s.driveData
    freeDraws := s.freeDraws, presence := v, grips := g }

/-- The pair of a head's grip lines at power-on reset: each keeps only its raw level (R141; log 7). -/
def gripsPowerOn (p : PerNozzle LineFilter) : PerNozzle LineFilter := { a := p.a.powerOn, b := p.b.powerOn }

theorem gripsPowerOn_filtered (p : PerNozzle LineFilter) (n : NozzleId) : ((gripsPowerOn p).get n).filtered = false := by
  cases n <;> rfl

theorem reset_level_grip (h : HeadIx) (n : NozzleId) : State.reset.level (.grip h n) = false := by
  fin_cases h <;> cases n <;> rfl

theorem powerOn_eq (s : State) :
    powerOn s = takeSnapshot (resetKeeping s (s.presence.map LineFilter.powerOn) (s.grips.map gripsPowerOn)) := by
  rw [← vector_ofFn_getElem_eq_map s.presence, ← vector_ofFn_getElem_eq_map s.grips]
  rfl

/-- With every grip line's filtered level OFF, the snapshot is the one the reset state holds: the status words show
neither what stands outside the blocks nor the raw levels (R169). -/
theorem takeSnapshot_resetKeeping (s : State) (v : Vector LineFilter 16) (g : Vector (PerNozzle LineFilter) 4)
    (hg : ∀ (h : HeadIx) (n : NozzleId), (g[h].get n).filtered = false) :
    takeSnapshot (resetKeeping s v g) = resetKeeping s v g := by
  have hlines : formSnapshot (resetKeeping s v g) =
      formSnapshot (resetKeeping s State.reset.presence State.reset.grips) :=
    formSnapshot_lines _ v g fun h n => (hg h n).trans (reset_level_grip h n).symm
  have hzero : formSnapshot (resetKeeping s v g) = Vector.replicate 64 0 := hlines.trans formSnapshot_reset
  unfold takeSnapshot
  rw [hzero]
  rfl

/-- Settles O6: the snapshot taken is the one the reset state holds, and each line keeps only its raw level. -/
theorem powerOnResetsEveryBlock : Obligations.PowerOnResetsEveryBlock := by
  unfold Obligations.PowerOnResetsEveryBlock
  intro s
  have hlow : ∀ (h : HeadIx) (n : NozzleId), ((s.grips.map gripsPowerOn)[h].get n).filtered = false := by
    intro h n
    rw [Fin.getElem_fin, Vector.getElem_map]
    exact gripsPowerOn_filtered _ n
  have hstate := (powerOn_eq s).trans (takeSnapshot_resetKeeping s _ _ hlow)
  exact congrArg Host.Outcome.next hstate

/-! ### What the reset state holds, record by record -/

@[simp] theorem reset_order (h : HeadIx) (k : SlotIx) : State.reset.order h k = Order.freed := by
  simp [State.reset, State.order]

@[simp] theorem reset_orderAt (h : HeadIx) : State.reset.orderAt h = Order.freed := reset_order h _

@[simp] theorem reset_fetchIndex (h : HeadIx) : State.reset.fetchIndex[h.val] = 0 := by simp [State.reset]

@[simp] theorem reset_expectedSeq (h : HeadIx) : State.reset.expectedSeq[h.val] = 0 := by simp [State.reset]

@[simp] theorem reset_holdTimers (h : HeadIx) : State.reset.holdTimers[h.val] = .stopped := by simp [State.reset]

@[simp] theorem reset_pointers (h : HeadIx) : State.reset.pointers[h.val] = .a := by simp [State.reset]

@[simp] theorem reset_heads (h : HeadIx) : State.reset.heads[h.val] = HeadRec.offDeck := by simp [State.reset]

@[simp] theorem reset_counters (h : HeadIx) : State.reset.counters[h.val] = HeadCounters.zero := by simp [State.reset]

@[simp] theorem reset_nozzle (h : HeadIx) (n : NozzleId) :
    State.reset.nozzle h n = { content := .empty, sensor := .quiet } := by
  cases n <;> simp [State.reset, State.nozzle, PerNozzle.get]

@[simp] theorem reset_sockets (i : SocketIx) : State.reset.sockets[i.val] =
    { phase := .disabled, reservation := none, sensor := .quiet, lastResult := .accepted } := by simp [State.reset]

@[simp] theorem reset_socketWaiters (i : SocketIx) : State.reset.socketWaiters[i.val] = [] := by simp [State.reset]

@[simp] theorem reset_zones (z : ZoneIx) : State.reset.zones[z.val] = { holder := none, waiters := [] } := by
  simp [State.reset]

@[simp] theorem reset_capture (i : Fin 4) : State.reset.capture[i.val] = none := by simp [State.reset]

@[simp] theorem reset_filter (l : Line) : State.reset.filter l = LineFilter.off := by
  cases l with
  | presence i => simp [State.reset, State.filter]
  | grip h n => cases n <;> simp [State.reset, State.filter, PerNozzle.get]

@[simp] theorem reset_sensor (l : Line) : State.reset.sensor l = .quiet := by
  cases l <;> simp [State.sensor]

/-- With every socket DISABLED and every head OFFLINE no line is watched (R142). -/
@[simp] theorem reset_watchedLevel (l : Line) : watchedLevel State.reset l = none := by
  have hexpected : expectedLevel State.reset l = none := by
    cases l <;> simp [expectedLevel, HeadRec.offDeck]
  simp [watchedLevel, hexpected]

@[simp] theorem reset_legsLeft (h : HeadIx) : legsLeft State.reset h = [] := by
  simp [legsLeft, Order.freed]

@[simp] theorem reset_unitAt (c : Carrier) : unitAt State.reset c = none := by
  cases c <;> simp [unitAt, Phase.unit, NozzleContent.unit]

theorem freed_not_active : Order.freed.state.active = false := rfl

theorem freed_not_live : Order.freed.state.live = false := rfl

/-! ### Every kept condition holds of the reset state -/

theorem reset_setupStill : SetupStill State.reset := by
  intro _
  simp [Order.freed, HeadRec.offDeck]

theorem reset_ordersSound : OrdersSound State.reset := by
  refine ⟨reset_setupStill, ?_, ?_, ?_⟩
  · intro h
    simp [freed_not_active, HeadRec.offDeck]
  · intro h k
    simp [freed_not_live]
  · intro h k
    simp [freed_not_live]

theorem reset_listsInOrder : ListsInOrder State.reset := by
  simp [ListsInOrder]

theorem reset_zonesClaimed : ZonesClaimed State.reset := by
  intro h
  simp [HeadRec.offDeck]

theorem reset_socketsReserved : SocketsReserved State.reset := by
  intro i h k
  simp [namedSockets]

theorem reset_tagsUnique : TagsUnique State.reset := by
  have hpending : State.reset.pendingTags = [] := rfl
  simp [TagsUnique, hpending, inputTags]

theorem reset_talliesBalance : TalliesBalance State.reset := by
  unfold TalliesBalance
  decide

theorem reset_offlineEmpty : OfflineEmpty State.reset := by
  intro h _
  simp

theorem reset_resultsFollowStates : ResultsFollowStates State.reset := by
  intro i
  simp

theorem reset_linesFollow : LinesFollow State.reset := by
  intro l
  simp

theorem reset_strayFollowsSet : StrayFollowsSet State.reset := by
  intro h
  rw [Fin.getElem_fin, reset_heads]
  exact ⟨by decide, fun _ => rfl⟩

theorem reset_kindsCapturedOnce : KindsCapturedOnce State.reset := by
  intro i j e f he
  simp at he

/-- No order is held, so no head waits on another (R73). -/
theorem reset_noWaitCycle : NoWaitCycle State.reset := by
  refine noWaitCycle_of_rank (fun _ => 0) fun x y hw => ?_
  obtain ⟨-, hheld, -⟩ := hw
  simp [Order.freed, OrderState.held] at hheld

/-! ### The profile pages at their reset values -/

theorem reset_profileEntryWords (e : Fin 16) : profileEntryWord State.reset .zone e = 0 ∧
    profileEntryWord State.reset .socket e = 0 ∧ profileEntryWord State.reset .head e = 0 := by
  refine ⟨?_, ?_, ?_⟩
  · simp [profileEntryWord, State.reset, zoneEntryWord, field]
  · simp [profileEntryWord, State.reset, socketEntryWord, field, flag, fieldNat]
  · simp [profileEntryWord, State.reset, headEntryWord, field, flag]

/-- Settles O5: record by record, then each kept condition by its own lemma. -/
theorem resetStateAsSpecified : Obligations.ResetStateAsSpecified := by
  unfold Obligations.ResetStateAsSpecified
  dsimp only
  refine ⟨?_, ?_, reset_profileEntryWords, ?_, ?_, ?_, reset_nozzle, ?_, reset_zones, reset_filter, ?_, ?_⟩
  · exact ⟨rfl, rfl, rfl, rfl, rfl, rfl, rfl, rfl, rfl, rfl⟩
  · exact ⟨by decide, by decide, rfl, formSnapshot_reset.symm, by decide⟩
  · decide
  · exact fun h k => ⟨reset_order h k, reset_fetchIndex h, reset_expectedSeq h⟩
  · exact fun h => ⟨reset_holdTimers h, reset_pointers h, reset_heads h, reset_counters h⟩
  · exact fun i => ⟨reset_sockets i, reset_socketWaiters i⟩
  · exact ⟨rfl, rfl, rfl, rfl, rfl, rfl, rfl⟩
  · exact ⟨dcmWf_reset, reset_ordersSound, reset_listsInOrder, reset_zonesClaimed, reset_socketsReserved,
      reset_tagsUnique, reset_talliesBalance, reset_offlineEmpty, reset_resultsFollowStates, reset_linesFollow,
      reset_strayFollowsSet, reset_kindsCapturedOnce, reset_noWaitCycle⟩

end Sys2Proof.Machine

/-! Control words that name no command, reads, passed writes, and the fields of the overlaid words. -/

namespace Sys2Proof.Machine

/-! ### Words that name no command (R12) -/

/-- The codes of R11, as 11.4 lists them. -/
def controlCodes : List Nat := [1, 2, 3, 0x10, 0x11, 0x12, 0x13, 0x14, 0x20, 0x21, 0x22, 0x30, 0x31]

theorem command_code_mem (c : Command) : c.code.toNat ∈ controlCodes := by
  cases c <;> decide

theorem commandOfCode_of_unlisted {c : BitVec 8} (hc : c.toNat ∉ controlCodes) : commandOfCode c = none := by
  refine List.find?_eq_none.mpr fun k _ hk => ?_
  obtain rfl : k.code = c := by simpa using hk
  exact hc (command_code_mem k)

theorem commandOfCode_headRecover : commandOfCode 0x12 = some .headRecover := by decide

theorem controlCommand_of_unlisted {w : Word} (hw : (ctlCode w).toNat ∉ controlCodes) : controlCommand w = none := by
  unfold controlCommand
  rw [commandOfCode_of_unlisted hw]

/-- A HEAD RECOVER whose action for a nozzle holds the value 3 names no command. -/
theorem controlCommand_of_action_unnamed {w : Word} (hcode : ctlCode w = 0x12)
    (hact : w.extractLsb' 6 2 = 3 ∨ w.extractLsb' 4 2 = 3) : controlCommand w = none := by
  have hnone : (ctlAction w .a).isSome = false ∨ (ctlAction w .b).isSome = false := by
    refine hact.imp (fun h => ?_) (fun h => ?_) <;> rw [ctlAction, h] <;> rfl
  unfold controlCommand
  rw [hcode, commandOfCode_headRecover]
  obtain h | h := hnone <;> simp [h]

/-- A word that names no command is written and answered, and no block receives it. -/
theorem writeControl_of_none {w : Word} (hw : controlCommand w = none) (s : State) :
    writeControl w s = answered s w .badCommand := by
  unfold writeControl controlWrite controlAnswer
  rw [hw]
  rfl

/-- Settles O19: neither kind of word names a command. -/
theorem badCommandAnswered : Obligations.BadCommandAnswered := by
  unfold Obligations.BadCommandAnswered
  intro w s hw
  have hnone : controlCommand w = none := by
    obtain hcode | ⟨hcode, hact⟩ := hw
    · exact controlCommand_of_unlisted hcode
    · exact controlCommand_of_action_unnamed hcode hact
  exact congrArg Host.Outcome.next (writeControl_of_none hnone s)

/-! ### Reads (R5, R8) -/

/-- A controller read that is no command of the table returns the word the map gives and changes nothing else. -/
theorem controllerRead_view {a : Addr} {r : Region} (ha : regionOf a = r) (hdata : r ≠ .profileData)
    (hstatus : r ≠ .status 0) (s : State) :
    busRead .controller a s = { s with lastGrant := .controller, controllerData := controllerView s a } := by
  subst ha
  show controllerRead a s = _
  unfold controllerRead
  split
  · contradiction
  · contradiction
  · rfl

/-- A drive read that is no fetch of its own ring returns the word the map gives and changes nothing else. -/
theorem driveRead_view {a : Addr} {h : HeadIx} (ha : ∀ k, regionOf a ≠ .header h k) (s : State) :
    busRead (.drive h) a s = returned s (driveView s a) := by
  show driveRead h a s = _
  unfold driveRead driveView
  split
  · next g k hg =>
    have hne : g ≠ h := fun e => ha k (e ▸ hg)
    simp only [if_neg hne, hg]
    rfl
  · rfl

/-! ### Status words (R5, R169) -/

theorem controllerView_status (n : Fin 64) (s : State) :
    controllerView s (BitVec.ofNat 14 (0x40 + n)) = s.snapshot[n] := by
  unfold controllerView
  rw [regionOf_status]

theorem driveView_status (n : Fin 64) (s : State) :
    driveView s (BitVec.ofNat 14 (0x40 + n)) = s.snapshot[n] := by
  unfold driveView
  rw [regionOf_status]

theorem formSnapshot_getElem (s : State) (n : Fin 64) : (formSnapshot s)[n] = (statusWords s)[n]?.getD 0 := by
  have hlen : n.val < (statusWords s).length := n.isLt
  rw [Fin.getElem?_fin, List.getElem?_eq_getElem hlen]
  rfl

theorem exec_statusWord0Read (s : State) : exec .statusWord0Read s = .next
    { s with lastGrant := .controller, snapshot := formSnapshot s, controllerData := summaryWord s } := rfl

/-- Settles O20: the snapshot is the list of status words, and each other read of one goes by the map to its word. -/
theorem statusReadTakesSnapshot : Obligations.StatusReadTakesSnapshot := by
  unfold Obligations.StatusReadTakesSnapshot
  intro s
  refine ⟨exec_statusWord0Read s, formSnapshot_getElem s, fun n hn => ?_, fun n h => ?_⟩
  · rw [controllerRead_view (regionOf_status n) (by simp) (by simpa using hn), controllerView_status]
  · rw [driveRead_view (by simp [regionOf_status]), driveView_status]

/-! ### Passed writes (R4, R44) -/

/-- A write to a region without a behaviour, and a header write in SETUP, reaches memory and changes nothing else. -/
theorem busWrite_of_writePasses {src : Source} {a : Addr} {s : State} (hp : writePasses src (regionOf a) = true)
    (hheader : ∀ h k, regionOf a = .header h k → s.mode = .setup) (w : Word) :
    busWrite src a w s = passWrite src a.toNat w s := by
  have hc := regionOf_covers a
  cases src with
  | controller =>
    show controllerWrite a w s = _
    unfold controllerWrite
    generalize regionOf a = r at hc hp hheader
    cases hc with
    | header h k ha =>
      dsimp only
      unfold writeHeader
      rw [hheader h k rfl, ha]
    | control | profilePage | profileAddress | profileData | socketCommand | report | leg => cases hp
    | _ => rfl
  | drive g =>
    show driveWrite g a w s = _
    unfold driveWrite
    generalize regionOf a = r at hc hp
    cases hc with
    | unassigned | plain => rfl
    | _ => cases hp

/-- The addresses at which a controller write passes, in SETUP also at the headers. -/
theorem writePasses_controller {a : Addr} {setup : Prop}
    (hn : (1 ≤ a.toNat ∧ a.toNat < 0x10) ∨ (0x14 ≤ a.toNat ∧ a.toNat < 0x40) ∨
      (0x104 ≤ a.toNat ∧ a.toNat < 0x200) ∨ 0x400 ≤ a.toNat ∨ a.toNat = 0x13 ∨
      (0x40 ≤ a.toNat ∧ a.toNat < 0x80) ∨ (0x80 ≤ a.toNat ∧ a.toNat < 0xC0 ∧ a.toNat % 4 ≠ 0) ∨
      (0xC0 ≤ a.toNat ∧ a.toNat < 0x100) ∨ (setup ∧ 0x200 ≤ a.toNat ∧ a.toNat < 0x400 ∧ a.toNat % 8 = 0)) :
    writePasses .controller (regionOf a) = true ∧ ∀ h k, regionOf a = .header h k → setup := by
  have hc := regionOf_covers a
  generalize regionOf a = r at hc
  cases hc with
  | header h k ha =>
    refine ⟨rfl, fun _ _ _ => ?_⟩
    unfold headerAddr at ha
    by_contra hs
    simp only [hs, false_and, or_false] at hn
    omega
  | control ha => unfold controlAddr at ha; omega
  | profilePage ha => unfold profilePageAddr at ha; omega
  | profileAddress ha => unfold profileAddressAddr at ha; omega
  | profileData ha => unfold profileDataAddr at ha; omega
  | socketCommand i ha => unfold socketCommandAddr at ha; omega
  | report h ha => unfold reportAddr at ha; omega
  | leg h k j ha => unfold legAddr headerAddr at ha; omega
  | _ => exact ⟨rfl, fun _ _ hr => nomatch hr⟩

/-- The addresses at which any write passes: the words without a behaviour on either port. -/
theorem writePasses_of_plain {a : Addr} (src : Source)
    (hn : (1 ≤ a.toNat ∧ a.toNat < 0x10) ∨ (0x14 ≤ a.toNat ∧ a.toNat < 0x40) ∨
      (0x104 ≤ a.toNat ∧ a.toNat < 0x200) ∨ 0x400 ≤ a.toNat) :
    writePasses src (regionOf a) = true ∧ ∀ h k, regionOf a ≠ .header h k := by
  have hr : regionOf a = .unassigned ∨ regionOf a = .plain := by
    by_cases hplain : 0x400 ≤ a.toNat
    · exact .inr (regionOf_of_plain_range hplain)
    · exact .inl (regionOf_of_unassigned_range (by omega))
  obtain hr | hr := hr <;> rw [hr] <;> cases src <;> exact ⟨rfl, fun _ _ h => nomatch h⟩

/-- Settles O32: at every address named the map lets the write pass. -/
theorem passedWritesReachMemory : Obligations.PassedWritesReachMemory := by
  unfold Obligations.PassedWritesReachMemory
  intro src a w s
  dsimp only
  intro hn
  refine congrArg Host.Outcome.next ?_
  cases src with
  | controller =>
    simp only [true_and] at hn
    obtain ⟨hp, hheader⟩ := writePasses_controller hn
    exact busWrite_of_writePasses hp hheader w
  | drive h =>
    simp only [reduceCtorEq, false_and, or_false] at hn
    obtain ⟨hp, hheader⟩ := writePasses_of_plain (.drive h) hn
    exact busWrite_of_writePasses hp (fun g k hg => absurd hg (hheader g k)) w

/-! ### Fields of a word the part forms (11_word_formats) -/

theorem getLsbD_field (lo : Nat) {n : Nat} (v : BitVec n) (i : Nat) :
    (field lo v).getLsbD i = (decide (i < 32) && decide (lo ≤ i) && v.getLsbD (i - lo)) := by
  unfold field
  rw [BitVec.getLsbD_shiftLeft, BitVec.getLsbD_setWidth]
  by_cases hi : i < 32
  · have hw : i - lo < 32 := by omega
    by_cases hlo : lo ≤ i <;> simp [hi, hw, hlo]
  · simp [hi]

/-- A flag's bit is the flag. -/
theorem getLsbD_field_ofBool {i : Nat} (hi : i < 32) (b : Bool) : (field i (BitVec.ofBool b)).getLsbD i = b := by
  rw [getLsbD_field]
  simp [hi]

/-- A field has no bit outside its place. -/
theorem getLsbD_field_outside {lo n i : Nat} (v : BitVec n) (h : i < lo ∨ lo + n ≤ i) :
    (field lo v).getLsbD i = false := by
  rw [getLsbD_field]
  obtain h | h := h
  · simp [Nat.not_le.mpr h]
  · simp [BitVec.getLsbD_of_ge v (i - lo) (by omega)]

/-- The bits at a field's place are the field's. -/
theorem extractLsb'_field_same {lo n : Nat} (v : BitVec n) (h : lo + n ≤ 32) : (field lo v).extractLsb' lo n = v := by
  refine BitVec.eq_of_getLsbD_eq fun i hi => ?_
  have hin : lo + i < 32 := by omega
  rw [BitVec.getLsbD_extractLsb', getLsbD_field, Nat.add_sub_cancel_left]
  simp only [hi, hin, Nat.le_add_right, decide_true, Bool.true_and]

/-- The bits at another place are none of the field's. -/
theorem extractLsb'_field_outside {lo n start len : Nat} (v : BitVec n) (h : start + len ≤ lo ∨ lo + n ≤ start) :
    (field lo v).extractLsb' start len = 0#len := by
  refine BitVec.eq_of_getLsbD_eq fun i hi => ?_
  rw [BitVec.getLsbD_extractLsb', getLsbD_field_outside v (by omega), Bool.and_false, BitVec.getLsbD_zero]

/-! ### The overlaid words, field by field (R14, R27, R57, R123, R124) -/

/-- A number that fits its field is read back from it. -/
theorem toNat_ofNat_of_lt {n v : Nat} (h : v < 2 ^ n) : (BitVec.ofNat n v).toNat = v := by
  rw [BitVec.toNat_ofNat, Nat.mod_eq_of_lt h]

theorem controlResultWord_fields (s : State) :
    (controlResultWord s).extractLsb' 24 8 = s.controlCode ∧ (controlResultWord s).extractLsb' 4 20 = 0#20 ∧
    (controlResultWord s).extractLsb' 0 4 = s.controlResult.code := by
  refine ⟨?_, ?_, ?_⟩ <;>
    simp (disch := omega) only [controlResultWord, BitVec.extractLsb'_or, extractLsb'_field_same,
      extractLsb'_field_outside, BitVec.or_zero, BitVec.zero_or]

theorem profileResultWord_fields (s : State) :
    (profileResultWord s).getLsbD 31 = s.counter.overrun ∧
    (profileResultWord s).extractLsb' 24 4 = s.profileResult.code.code ∧
    (profileResultWord s).extractLsb' 20 2 = s.profileResult.page.number ∧
    ((profileResultWord s).extractLsb' 16 4).toNat = s.profileResult.entry.val ∧
    (profileResultWord s).extractLsb' 0 8 = s.profileResult.check := by
  refine ⟨?_, ?_, ?_, ?_, ?_⟩ <;>
    simp (disch := omega) only [profileResultWord, flag, fieldNat, BitVec.getLsbD_or, getLsbD_field_ofBool,
      getLsbD_field_outside, Bool.or_false, BitVec.extractLsb'_or, extractLsb'_field_same, extractLsb'_field_outside,
      BitVec.or_zero, BitVec.zero_or, toNat_ofNat_of_lt]

theorem dispositionWord_fields (o : Order) :
    let w := dispositionWord o
    w.extractLsb' 28 4 = o.state.code ∧ w.extractLsb' 24 4 = o.state.reasonCode ∧
    (o.completed < 8 → (w.extractLsb' 20 3).toNat = o.completed) ∧
    w.getLsbD 18 = o.resolved.isSome ∧ w.getLsbD 17 = (o.resolved == some .b) ∧
    w.extractLsb' 8 8 = o.seq.getD 0 ∧ w.getLsbD 4 = o.blocker.isSome ∧
    (w.extractLsb' 0 2).toNat = (o.blocker.getD 0).val := by
  dsimp only
  refine ⟨?_, ?_, fun hc => ?_, ?_, ?_, ?_, ?_, ?_⟩ <;>
    simp (disch := omega) only [dispositionWord, flag, fieldNat, BitVec.getLsbD_or, getLsbD_field_ofBool,
      getLsbD_field_outside, Bool.or_false, Bool.false_or, BitVec.extractLsb'_or, extractLsb'_field_same,
      extractLsb'_field_outside, BitVec.or_zero, BitVec.zero_or, toNat_ofNat_of_lt]

/-- The reservation's fields lie in bits 19 to 25. -/
theorem extractLsb'_reservationField_outside {start len : Nat} (r : Option (HeadIx × SlotIx))
    (h : start + len ≤ 19 ∨ 26 ≤ start) :
    (reservationField r).extractLsb' start len = 0#len := by
  cases r with
  | none => simp [reservationField]
  | some p =>
    obtain ⟨g, k⟩ := p
    simp (disch := omega) only [reservationField, flag, fieldNat, BitVec.extractLsb'_or, extractLsb'_field_outside,
      BitVec.or_zero]

theorem getLsbD_reservationField_outside {i : Nat} (r : Option (HeadIx × SlotIx)) (h : i < 19 ∨ 26 ≤ i) :
    (reservationField r).getLsbD i = false := by
  cases r with
  | none => simp [reservationField]
  | some p =>
    obtain ⟨g, k⟩ := p
    simp (disch := omega) only [reservationField, flag, fieldNat, BitVec.getLsbD_or, getLsbD_field_outside,
      Bool.or_false]

theorem getLsbD_reservationField_flag (r : Option (HeadIx × SlotIx)) : (reservationField r).getLsbD 25 = r.isSome := by
  cases r with
  | none => rfl
  | some p =>
    obtain ⟨g, k⟩ := p
    simp (disch := omega) only [reservationField, flag, fieldNat, BitVec.getLsbD_or, getLsbD_field_ofBool,
      getLsbD_field_outside, Bool.or_false, Option.isSome_some]

theorem reservationField_fields (h : HeadIx) (k : SlotIx) :
    ((reservationField (some (h, k))).extractLsb' 23 2).toNat = h.val ∧
    ((reservationField (some (h, k))).extractLsb' 19 4).toNat = k.val := by
  refine ⟨?_, ?_⟩ <;>
    simp (disch := omega) only [reservationField, flag, fieldNat, BitVec.extractLsb'_or, extractLsb'_field_same,
      extractLsb'_field_outside, BitVec.or_zero, BitVec.zero_or, toNat_ofNat_of_lt]

theorem socketStateWord_fields (s : State) (i : SocketIx) :
    let x := s.sockets[i]
    let w := socketStateWord s i
    w.extractLsb' 28 4 = x.phase.code ∧ w.getLsbD 27 = x.sensor.isDisturbed ∧ w.getLsbD 26 = x.sensor.isRecovering ∧
    w.getLsbD 25 = x.reservation.isSome ∧
    (∀ h k, x.reservation = some (h, k) →
      (w.extractLsb' 23 2).toNat = h.val ∧ (w.extractLsb' 19 4).toNat = k.val) ∧
    w.extractLsb' 16 3 = x.phase.reasonCode ∧ w.extractLsb' 12 4 = x.lastResult.code ∧
    (s.socketWaiters[i].length < 8 → (w.extractLsb' 8 3).toNat = s.socketWaiters[i].length) ∧
    w.getLsbD 7 = s.level (.presence i) := by
  dsimp only
  refine ⟨?_, ?_, ?_, ?_, fun h k hr => ?_, ?_, ?_, fun hc => ?_, ?_⟩
  case refine_5 =>
    obtain ⟨hh, hk⟩ := reservationField_fields h k
    refine ⟨Eq.trans ?_ hh, Eq.trans ?_ hk⟩ <;>
      simp (disch := omega) only [socketStateWord, hr, flag, fieldNat, BitVec.extractLsb'_or,
        extractLsb'_field_outside, BitVec.or_zero, BitVec.zero_or]
  all_goals
    simp (disch := omega) only [socketStateWord, flag, fieldNat, BitVec.getLsbD_or, getLsbD_field_ofBool,
      getLsbD_field_outside, getLsbD_reservationField_outside, getLsbD_reservationField_flag, Bool.or_false,
      Bool.false_or, BitVec.extractLsb'_or, extractLsb'_field_same, extractLsb'_field_outside,
      extractLsb'_reservationField_outside, BitVec.or_zero, BitVec.zero_or, toNat_ofNat_of_lt]

theorem resultField_toNat (r : Option UnitResult) : (resultField r).toNat = match r with
    | some (.cls c) => c.val
    | some .retest => 8
    | none => 15 := by
  cases r with
  | none => rfl
  | some r =>
    cases r with
    | cls c => exact toNat_ofNat_of_lt (by omega)
    | retest => rfl

theorem unitWord_fields (u : UnitRec) :
    let v := unitWord (some u)
    v.getLsbD 31 = true ∧ v.extractLsb' 16 12 = u.tag ∧ v.extractLsb' 12 2 = u.insertions ∧
    v.getLsbD 7 = u.lastSocket.isSome ∧ (v.extractLsb' 8 4).toNat = (u.lastSocket.getD 0).val ∧
    v.extractLsb' 0 4 = resultField u.result := by
  dsimp only
  refine ⟨?_, ?_, ?_, ?_, ?_, ?_⟩ <;>
    simp (disch := omega) only [unitWord, flag, fieldNat, BitVec.getLsbD_or, getLsbD_field_ofBool,
      getLsbD_field_outside, Bool.or_false, Bool.false_or, BitVec.extractLsb'_or, extractLsb'_field_same,
      extractLsb'_field_outside, BitVec.or_zero, BitVec.zero_or, toNat_ofNat_of_lt]

/-! ### Reads at the overlaid words, and the reads that pass (R4, R5, R8) -/

theorem controllerRead_control (s : State) :
    busRead .controller 0 s = { s with lastGrant := .controller, controllerData := controlResultWord s } := rfl

theorem controllerRead_profileResult (s : State) :
    busRead .controller 0x13 s = { s with lastGrant := .controller, controllerData := profileResultWord s } := rfl

/-- A read of address a by either port returns v and changes nothing else. -/
def ReadsAs (a : Addr) (s : State) (v : Word) : Prop :=
  busRead .controller a s = { s with lastGrant := .controller, controllerData := v } ∧
  ∀ h, busRead (.drive h) a s = returned s v

theorem readsAs_of_views {a : Addr} {r : Region} {s : State} {v : Word} (hr : regionOf a = r) (hdata : r ≠ .profileData)
    (hstatus : r ≠ .status 0) (hheader : ∀ h k, r ≠ .header h k) (hcontroller : controllerView s a = v)
    (hdrive : driveView s a = v) : ReadsAs a s v := by
  subst hr hcontroller
  exact ⟨controllerRead_view rfl hdata hstatus s, fun h => hdrive ▸ driveRead_view (hheader h) s⟩

theorem readsAs_disposition (s : State) (h : HeadIx) (k : SlotIx) :
    ReadsAs (BitVec.ofNat 14 (0xC0 + 16 * h + k)) s (dispositionWord (s.order h k)) :=
  readsAs_of_views (regionOf_disposition h k) nofun nofun nofun (by rw [controllerView, regionOf_disposition])
    (by rw [driveView, regionOf_disposition])

theorem readsAs_socketState (s : State) (i : SocketIx) :
    ReadsAs (BitVec.ofNat 14 (0x81 + 4 * i)) s (socketStateWord s i) :=
  readsAs_of_views (regionOf_socketState i) nofun nofun nofun (by rw [controllerView, regionOf_socketState])
    (by rw [driveView, regionOf_socketState])

theorem readsAs_socketUnit (s : State) (i : SocketIx) :
    ReadsAs (BitVec.ofNat 14 (0x82 + 4 * i)) s (socketUnitWord s i) :=
  readsAs_of_views (regionOf_socketUnit i) nofun nofun nofun (by rw [controllerView, regionOf_socketUnit])
    (by rw [driveView, regionOf_socketUnit])

/-- A drive's read of another ring's header returns NONE (R8). -/
theorem driveRead_other_header {g h : HeadIx} (hne : g ≠ h) (k : SlotIx) (s : State) :
    busRead (.drive h) (BitVec.ofNat 14 (0x200 + 128 * g + 8 * k)) s = returned s 0 := by
  have hr := regionOf_header g k
  refine (driveRead_view (by simp [hr, hne]) s).trans ?_
  rw [driveView, hr]
  rfl

/-- A drive's read of its own ring's header is FETCH (R8). -/
theorem exec_fetch_eq_busRead (h : HeadIx) (k : SlotIx) (s : State) :
    exec (.fetch h k) s = .next (busRead (.drive h) (BitVec.ofNat 14 (0x200 + 128 * h + 8 * k)) s) := by
  refine congrArg Host.Outcome.next ?_
  show fetchHeader h k s = driveRead h _ s
  unfold driveRead
  rw [regionOf_header]
  exact (if_pos rfl).symm

/-- The addresses at which a controller read passes. -/
theorem controllerRead_passes {a : Addr} (s : State)
    (hn : (1 ≤ a.toNat ∧ a.toNat < 0x12) ∨ (0x14 ≤ a.toNat ∧ a.toNat < 0x40) ∨
      (0x80 ≤ a.toNat ∧ a.toNat < 0xC0 ∧ (a.toNat % 4 = 0 ∨ a.toNat % 4 = 3)) ∨ 0x100 ≤ a.toNat) :
    busRead .controller a s = { s with lastGrant := .controller, controllerData := dcmRead s.dcm a.toNat } := by
  have hc := regionOf_covers a
  have hpass : regionOf a ≠ .profileData ∧ regionOf a ≠ .status 0 ∧
      controllerView s a = dcmRead s.dcm a.toNat := by
    unfold controllerView
    generalize regionOf a = r at hc
    cases hc with
    | control ha => unfold controlAddr at ha; omega
    | profileData ha => unfold profileDataAddr at ha; omega
    | profileResult ha => unfold profileResultAddr at ha; omega
    | status n ha => unfold statusAddr at ha; omega
    | socketState i ha => unfold socketStateAddr at ha; omega
    | socketUnit i ha => unfold socketUnitAddr at ha; omega
    | disposition h k ha => unfold dispositionAddr at ha; omega
    | _ => exact ⟨nofun, nofun, rfl⟩
  obtain ⟨hdata, hstatus, hview⟩ := hpass
  rw [controllerRead_view rfl hdata hstatus, hview]

/-- The addresses at which a drive read passes. -/
theorem driveRead_passes {a : Addr} (s : State) (h : HeadIx)
    (hn : a.toNat < 0x40 ∨ (0x80 ≤ a.toNat ∧ a.toNat < 0xC0 ∧ (a.toNat % 4 = 0 ∨ a.toNat % 4 = 3)) ∨
      (0x100 ≤ a.toNat ∧ a.toNat < 0x200) ∨ (0x200 ≤ a.toNat ∧ a.toNat < 0x400 ∧ a.toNat % 8 ≠ 0) ∨
      0x400 ≤ a.toNat) :
    busRead (.drive h) a s = returned s (dcmRead s.dcm a.toNat) := by
  have hc := regionOf_covers a
  have hpass : (∀ k, regionOf a ≠ .header h k) ∧ driveView s a = dcmRead s.dcm a.toNat := by
    unfold driveView
    generalize regionOf a = r at hc
    cases hc with
    | status n ha => unfold statusAddr at ha; omega
    | socketState i ha => unfold socketStateAddr at ha; omega
    | socketUnit i ha => unfold socketUnitAddr at ha; omega
    | disposition h k ha => unfold dispositionAddr at ha; omega
    | header h k ha => unfold headerAddr at ha; omega
    | _ => exact ⟨nofun, rfl⟩
  obtain ⟨hheader, hview⟩ := hpass
  rw [driveRead_view hheader, hview]

theorem socketUnitWord_of_none {s : State} {i : SocketIx} (hu : s.sockets[i].phase.unit = none) :
    socketUnitWord s i = 0 := by
  rw [socketUnitWord, hu]
  rfl

theorem socketUnitWord_of_some {s : State} {i : SocketIx} {u : UnitRec} (hu : s.sockets[i].phase.unit = some u) :
    socketUnitWord s i = unitWord (some u) := by
  rw [socketUnitWord, hu]

/-- Settles O47: each read goes by the map to its word, and each word holds its record's fields. -/
theorem overlayWordsShowRecords : Obligations.OverlayWordsShowRecords := by
  unfold Obligations.OverlayWordsShowRecords
  refine ⟨fun a s => ?_, fun s h g k => ?_, fun s h k i => ⟨?_, ?_, ?_, ?_⟩⟩
  · exact ⟨controllerRead_passes s, fun hn h => driveRead_passes s h hn⟩
  · exact ⟨fun hne => driveRead_other_header hne k s, fun he => he ▸ exec_fetch_eq_busRead g k s, rfl, rfl⟩
  · exact ⟨controllerRead_control s, controlResultWord_fields s⟩
  · exact ⟨controllerRead_profileResult s, profileResultWord_fields s⟩
  · obtain ⟨hcontroller, hdrive⟩ := readsAs_disposition s h k
    exact ⟨hcontroller, hdrive, dispositionWord_fields _⟩
  · obtain ⟨hcontroller, hdrive⟩ := readsAs_socketState s i
    obtain ⟨hcontroller', hdrive'⟩ := readsAs_socketUnit s i
    obtain ⟨f1, f2, f3, f4, f5, f6, f7, f8, f9⟩ := socketStateWord_fields s i
    refine ⟨fun h => ⟨hdrive h, hdrive' h⟩, hcontroller, hcontroller', f1, f2, f3, f4, f5, f6, f7, f8, f9,
      socketUnitWord_of_none, fun u hu => ?_⟩
    obtain ⟨g1, g2, g3, g4, g5, g6⟩ := unitWord_fields u
    rw [socketUnitWord_of_some hu]
    exact ⟨g1, g2, g3, g4, g5, g6.symm ▸ resultField_toNat u.result⟩

end Sys2Proof.Machine

/-! The orders of the rings under every step: what the conditions on orders read of the state, how each operation
changes that, and the statement that every step keeps them. -/

namespace Sys2Proof.Machine

/-! ### What the conditions on orders read (R38, R40, R153) -/

/-- The mode, the profile pages, the order records, the fetch indices, and which heads are online and faulted. -/
@[ext] structure OrderBook where
  mode : Mode
  zonePage : Vector ZoneEntry 16
  socketPage : Vector SocketEntry 16
  headPage : Vector HeadEntry 4
  order : HeadIx → SlotIx → Order
  fetchIndex : HeadIx → SlotIx
  online : HeadIx → Bool
  faulted : HeadIx → Bool

/-- The book of a state. -/
def State.book (s : State) : OrderBook where
  mode := s.mode
  zonePage := s.zonePage
  socketPage := s.socketPage
  headPage := s.headPage
  order := s.order
  fetchIndex h := s.fetchIndex[h]
  online h := s.heads[h].online
  faulted h := s.heads[h].faulted

namespace OrderBook

/-- The book with order o in slot k of head h. -/
def setOrder (b : OrderBook) (h : HeadIx) (k : SlotIx) (o : Order) : OrderBook :=
  { b with order := fun g j => if g = h ∧ j = k then o else b.order g j }

/-- The book with head h's fetch index at slot k. -/
def setFetch (b : OrderBook) (h : HeadIx) (k : SlotIx) : OrderBook :=
  { b with fetchIndex := Function.update b.fetchIndex h k }

/-- The book with head h online and faulted as given. -/
def setDuty (b : OrderBook) (h : HeadIx) (online faulted : Bool) : OrderBook :=
  { b with online := Function.update b.online h online, faulted := Function.update b.faulted h faulted }

/-- A state with the book's pages. -/
def pages (b : OrderBook) : State :=
  { State.reset with zonePage := b.zonePage, socketPage := b.socketPage, headPage := b.headPage }

/-- What the static checks of a post say on the book's pages. -/
def postFailure (b : OrderBook) (h : HeadIx) (o : Order) : Option Reason := Machine.postFailure b.pages h o

/-- A live order passes the static checks, has completed no leg before it is CLEARED, and then has a leg left. -/
def Fits (b : OrderBook) (h : HeadIx) (o : Order) : Prop :=
  o.state.live = true →
    b.postFailure h o = none ∧ (o.state ≠ .cleared → o.completed = 0) ∧
      (o.state = .cleared → o.completed < o.chain.length)

/-- Head h's held or CLEARED orders stand at its fetch index, and only while it is online and not faulted. -/
structure InPlace (b : OrderBook) (h : HeadIx) : Prop where
  atIndex : ∀ k, (b.order h k).state.active = true → k = b.fetchIndex h
  onDuty : (b.order h (b.fetchIndex h)).state.active = true → b.online h = true ∧ b.faulted h = false
  faultedOnline : b.faulted h = true → b.online h = true

/-- The conditions on orders, without that of SETUP. -/
structure Sound (b : OrderBook) : Prop where
  inPlace : ∀ h, b.InPlace h
  fits : ∀ h k, b.Fits h (b.order h k)

end OrderBook

/-! ### The static checks read the profile only (R49) -/

section

variable {s t : State} (hzone : t.zonePage = s.zonePage)
include hzone

theorem zoneType_of_zonePage : t.zoneType = s.zoneType := by
  funext z
  simp only [State.zoneType, hzone]

theorem adjacent_of_zonePage : t.adjacent = s.adjacent := by
  funext z y
  simp only [State.adjacent, hzone]

theorem legSocket_of_zonePage : legSocket t = legSocket s := by
  funext l
  simp only [legSocket, zoneType_of_zonePage hzone]

theorem inputPick_of_zonePage : inputPick t = inputPick s := by
  funext l
  simp only [inputPick, zoneType_of_zonePage hzone]

theorem tagsFit_of_zonePage : tagsFit t = tagsFit s := by
  funext seen legs
  induction legs generalizing seen with
  | nil => rfl
  | cons l rest ih => rw [tagsFit, tagsFit, inputPick_of_zonePage hzone, ih, ih]

theorem pathConnected_of_zonePage : pathConnected t = pathConnected s := by
  funext legs
  induction legs with
  | nil => rfl
  | cons l rest ih =>
    cases rest with
    | nil => rfl
    | cons m rest => simp only [pathConnected, adjacent_of_zonePage hzone, ih]

theorem actionAllowed_of_zonePage : actionAllowed t = actionAllowed s := by
  funext l
  simp only [actionAllowed, zoneType_of_zonePage hzone]

theorem postFailure_of_pages (hsocket : t.socketPage = s.socketPage) (hhead : t.headPage = s.headPage) :
    postFailure t = postFailure s := by
  have hlies : socketLiesInZone t = socketLiesInZone s := by
    funext l
    simp only [socketLiesInZone, legSocket_of_zonePage hzone, hsocket]
  have hreach : t.reaches = s.reaches := by
    funext h z
    simp only [State.reaches, hhead]
  funext h o
  simp only [postFailure, staticFailure, actionAllowed_of_zonePage hzone, hlies, tagsFit_of_zonePage hzone, hreach,
    pathConnected_of_zonePage hzone, hhead]

end

theorem postFailure_book (s : State) : s.book.postFailure = postFailure s :=
  postFailure_of_pages (s := s) (t := s.book.pages) rfl rfl rfl

/-- The static checks read of an order its legs only. -/
theorem OrderBook.postFailure_of_legs (b : OrderBook) (h : HeadIx) {o p : Order} (hlegs : o.legs = p.legs) :
    b.postFailure h o = b.postFailure h p := by
  simp only [OrderBook.postFailure, Machine.postFailure, staticFailure, Order.chain?, hlegs]

theorem ordersSound_iff (s : State) : OrdersSound s ↔ SetupStill s ∧ s.book.Sound := by
  constructor
  · rintro ⟨hstill, hplace, hchecked, hcounted⟩
    refine ⟨hstill, fun h => ?_, fun h k hlive => ?_⟩
    · obtain ⟨h1, h2, h3⟩ := hplace h
      exact ⟨h1, h2, h3⟩
    · exact ⟨postFailure_book s ▸ hchecked h k hlive, hcounted h k hlive⟩
  · rintro ⟨hstill, hplace, hfits⟩
    refine ⟨hstill, fun h => ?_, fun h k hlive => ?_, fun h k hlive => ?_⟩
    · exact ⟨(hplace h).atIndex, (hplace h).onDuty, (hplace h).faultedOnline⟩
    · exact postFailure_book s ▸ (hfits h k hlive).1
    · exact (hfits h k hlive).2

/-! ### Changes of the book that keep it sound -/

theorem OrderState.live_of_active {o : OrderState} (h : o.active = true) : o.live = true := by
  cases o with
  | socketWait | zoneWait | cleared => rfl
  | _ => cases h

theorem OrderState.active_of_not_live {o : OrderState} (h : o.live = false) : o.active = false := by
  cases ha : o.active with
  | false => rfl
  | true => rw [live_of_active ha] at h; cases h

namespace OrderBook

variable {b : OrderBook} {h : HeadIx} {k : SlotIx} {o : Order}

theorem setOrder_order (b : OrderBook) (h g : HeadIx) (k j : SlotIx) (o : Order) :
    (b.setOrder h k o).order g j = if g = h ∧ j = k then o else b.order g j := rfl

@[simp] theorem setOrder_order_same (b : OrderBook) (h : HeadIx) (k : SlotIx) (o : Order) :
    (b.setOrder h k o).order h k = o := if_pos ⟨rfl, rfl⟩

@[simp] theorem setOrder_fetchIndex (b : OrderBook) (h : HeadIx) (k : SlotIx) (o : Order) :
    (b.setOrder h k o).fetchIndex = b.fetchIndex := rfl

@[simp] theorem setDuty_fetchIndex (b : OrderBook) (h : HeadIx) (online faulted : Bool) :
    (b.setDuty h online faulted).fetchIndex = b.fetchIndex := rfl

@[simp] theorem setOrder_online (b : OrderBook) (h : HeadIx) (k : SlotIx) (o : Order) :
    (b.setOrder h k o).online = b.online := rfl

theorem fits_of_not_live (b : OrderBook) (h : HeadIx) (hlive : o.state.live = false) : b.Fits h o := by
  intro hl
  rw [hlive] at hl
  cases hl

/-- No order of head h is held or CLEARED. -/
def Resting (b : OrderBook) (h : HeadIx) : Prop := ∀ k, (b.order h k).state.active = false

theorem Resting.not_active (hrest : b.Resting h) (k : SlotIx) : ¬ (b.order h k).state.active = true :=
  Bool.eq_false_iff.mp (hrest k)

theorem Sound.resting (hb : b.Sound) (hidle : (b.order h (b.fetchIndex h)).state.active = false) : b.Resting h := by
  intro k
  cases ha : (b.order h k).state.active with
  | false => rfl
  | true => rw [(hb.inPlace h).atIndex k ha, hidle] at ha; cases ha

/-- An order that fits, and stands in place if it is held or CLEARED, may come into a slot. -/
theorem Sound.setOrder (hb : b.Sound) (hfits : b.Fits h o)
    (hplace : o.state.active = true → k = b.fetchIndex h ∧ b.online h = true ∧ b.faulted h = false) :
    (b.setOrder h k o).Sound := by
  refine ⟨fun g => ⟨fun j hj => ?_, fun hj => ?_, (hb.inPlace g).faultedOnline⟩, fun g j => ?_⟩
  · rw [setOrder_order] at hj
    split_ifs at hj with hc
    · obtain ⟨rfl, rfl⟩ := hc
      exact (hplace hj).1
    · exact (hb.inPlace g).atIndex j hj
  · rw [setOrder_order] at hj
    split_ifs at hj with hc
    · obtain ⟨rfl, -⟩ := hc
      exact (hplace hj).2
    · exact (hb.inPlace g).onDuty hj
  · rw [setOrder_order]
    split_ifs with hc
    · obtain ⟨rfl, rfl⟩ := hc
      exact hfits
    · exact hb.fits g j

/-- An order with legs, state and legs completed as they were may take the place of the one in its slot. -/
theorem Sound.setOrder_same (hb : b.Sound) (hstate : o.state = (b.order h k).state)
    (hlegs : o.legs = (b.order h k).legs) (hcompleted : o.completed = (b.order h k).completed) :
    (b.setOrder h k o).Sound := by
  refine hb.setOrder (fun hlive => ?_) fun ha => ?_
  · have hchain : o.chain = (b.order h k).chain := by simp only [Order.chain, Order.chain?, hlegs]
    rw [hstate] at hlive
    rw [hstate, hcompleted, hchain, b.postFailure_of_legs h hlegs]
    exact hb.fits h k hlive
  · rw [hstate] at ha
    obtain rfl := (hb.inPlace h).atIndex k ha
    exact ⟨rfl, (hb.inPlace h).onDuty ha⟩

/-- An order that is not live may come into any slot. -/
theorem Sound.setOrder_of_not_live (hb : b.Sound) (hlive : o.state.live = false) : (b.setOrder h k o).Sound :=
  hb.setOrder (fits_of_not_live b h hlive) fun ha => by
    rw [OrderState.active_of_not_live hlive] at ha
    cases ha

/-- The fetch index of a head without a held or CLEARED order may move. -/
theorem Sound.setFetch (hb : b.Sound) (hrest : b.Resting h) (f : SlotIx) : (b.setFetch h f).Sound := by
  refine ⟨fun g => ?_, hb.fits⟩
  rcases eq_or_ne g h with rfl | hg
  · exact ⟨fun j hj => absurd hj (hrest.not_active j), fun hj => absurd hj (hrest.not_active _),
      (hb.inPlace g).faultedOnline⟩
  · have hfetch : (b.setFetch h f).fetchIndex g = b.fetchIndex g := Function.update_of_ne hg _ _
    exact ⟨fun j hj => hfetch.symm ▸ (hb.inPlace g).atIndex j hj, fun hj => (hb.inPlace g).onDuty (hfetch ▸ hj),
      (hb.inPlace g).faultedOnline⟩

/-- A head without a held or CLEARED order may come online, go offline or be faulted. -/
theorem Sound.setDuty (hb : b.Sound) (hrest : b.Resting h) {online faulted : Bool}
    (hduty : faulted = true → online = true) : (b.setDuty h online faulted).Sound := by
  refine ⟨fun g => ?_, hb.fits⟩
  rcases eq_or_ne g h with rfl | hg
  · refine ⟨(hb.inPlace g).atIndex, fun hj => absurd hj (hrest.not_active _), ?_⟩
    simpa [OrderBook.setDuty] using hduty
  · have honline : (b.setDuty h online faulted).online g = b.online g := Function.update_of_ne hg _ _
    have hfaulted : (b.setDuty h online faulted).faulted g = b.faulted g := Function.update_of_ne hg _ _
    exact ⟨(hb.inPlace g).atIndex, fun hj => by rw [honline, hfaulted]; exact (hb.inPlace g).onDuty hj,
      by rw [honline, hfaulted]; exact (hb.inPlace g).faultedOnline⟩

/-- With the order at the fetch index no longer held or CLEARED, the head has no such order. -/
theorem Sound.resting_setOrder (hb : b.Sound) (hk : k = b.fetchIndex h) (ho : o.state.live = false) :
    (b.setOrder h k o).Resting h := by
  refine (hb.setOrder_of_not_live ho).resting ?_
  show ((b.setOrder h k o).order h (b.fetchIndex h)).state.active = false
  rw [setOrder_order, if_pos ⟨rfl, hk.symm⟩]
  exact OrderState.active_of_not_live ho

/-- The order at the fetch index may end, the fetch index moving on. -/
theorem Sound.endOrder (hb : b.Sound) (hk : k = b.fetchIndex h) (ho : o.state.live = false) (f : SlotIx) :
    ((b.setOrder h k o).setFetch h f).Sound :=
  (hb.setOrder_of_not_live ho).setFetch (hb.resting_setOrder hk ho) f

end OrderBook

/-! ### The book after each operation -/

@[simp] theorem book_setOrder (h : HeadIx) (k : SlotIx) (o : Order) (s : State) :
    (s.setOrder h k o).book = s.book.setOrder h k o := by
  ext1
  case order => funext g j; exact State.order_setOrder s h g k j o
  all_goals rfl

@[simp] theorem book_setFetchIndex (h : HeadIx) (k : SlotIx) (s : State) :
    (s.setFetchIndex h k).book = s.book.setFetch h k := by
  ext1
  case fetchIndex =>
    funext g
    simp only [State.book, OrderBook.setFetch, State.setFetchIndex, getElem_set_fin, Function.update_apply]
  all_goals rfl

theorem book_setHead (h : HeadIx) (x : HeadRec) (s : State) :
    (s.setHead h x).book = s.book.setDuty h x.online x.faulted := by
  ext1
  case online | faulted =>
    funext g
    simp only [State.book, OrderBook.setDuty, State.setHead, getElem_set_fin, Function.update_apply]
    split_ifs <;> rfl
  all_goals rfl

theorem OrderBook.setDuty_same (b : OrderBook) {h : HeadIx} : b.setDuty h (b.online h) (b.faulted h) = b := by
  unfold OrderBook.setDuty
  simp only [Function.update_eq_self]

/-- A head record changed in its causes, its stray source set or its resting zone leaves the book. -/
theorem book_setHead_same {h : HeadIx} {x : HeadRec} {s : State} (honline : x.online = s.heads[h].online)
    (hfaulted : x.faulted = s.heads[h].faulted) : (s.setHead h x).book = s.book := by
  rw [book_setHead, honline, hfaulted]
  exact OrderBook.setDuty_same _

@[simp] theorem OrderBook.setOrder_setOrder (b : OrderBook) (h : HeadIx) (k : SlotIx) (o p : Order) :
    (b.setOrder h k o).setOrder h k p = b.setOrder h k p := by
  ext1
  case order => funext g j; simp only [setOrder_order]; split_ifs <;> rfl
  all_goals rfl

@[simp] theorem book_setHoldTimer (h : HeadIx) (x : HoldTimer) (s : State) : (s.setHoldTimer h x).book = s.book := rfl
@[simp] theorem book_setExpectedSeq (h : HeadIx) (q : Seq) (s : State) : (s.setExpectedSeq h q).book = s.book := rfl
@[simp] theorem book_setPointer (h : HeadIx) (n : NozzleId) (s : State) : (s.setPointer h n).book = s.book := rfl
@[simp] theorem book_leaveLists (h : HeadIx) (s : State) : (leaveLists h s).book = s.book := by
  unfold State.book State.order leaveLists
  dsimp only
@[simp] theorem book_stopHolding (h : HeadIx) (s : State) : (stopHolding h s).book = s.book :=
  (book_setHoldTimer h _ _).trans (book_leaveLists h s)
@[simp] theorem book_releaseBut (h : HeadIx) (keep : List ZoneIx) (s : State) :
    (releaseBut h keep s).book = s.book := by
  unfold State.book State.order releaseBut
  dsimp only
@[simp] theorem book_pendTags (l : List Tag) (s : State) : (pendTags l s).book = s.book := rfl
@[simp] theorem book_unpendTags (l : List Tag) (s : State) : (unpendTags l s).book = s.book := rfl
@[simp] theorem book_dropReservationsBut (h : HeadIx) (k : SlotIx) (keep : List SocketIx) (s : State) :
    (dropReservationsBut h k keep s).book = s.book := by
  unfold State.book State.order dropReservationsBut
  dsimp only
@[simp] theorem book_answer (h : HeadIx) (w : Word) (s : State) : (answer h w s).book = s.book := rfl
@[simp] theorem book_advanceFetch (h : HeadIx) (s : State) :
    (advanceFetch h s).book = s.book.setFetch h (s.book.fetchIndex h + 1) := book_setFetchIndex h _ s
@[simp] theorem book_refuseOrder (h : HeadIx) (k : SlotIx) (r : Reason) (skip : Bool) (s : State) :
    (refuseOrder h k r skip s).book =
      s.book.setOrder h k { s.book.order h k with state := .refused r, blocker := none, skipGiven := skip } :=
  book_setOrder h k _ s
@[simp] theorem book_setOrderState (h : HeadIx) (k : SlotIx) (st : OrderState) (s : State) :
    (setOrderState h k st s).book = s.book.setOrder h k { s.book.order h k with state := st } := book_setOrder h k _ s
@[simp] theorem book_setCompleted (h : HeadIx) (k : SlotIx) (n : Nat) (s : State) :
    (setCompleted h k n s).book = s.book.setOrder h k { s.book.order h k with completed := n } := book_setOrder h k _ s

/-- Where mode, pages, slots and fetch indices stay, and each head's online and faulted, the book stays. -/
theorem book_of_fields {s t : State} (hmode : t.mode = s.mode) (hzone : t.zonePage = s.zonePage)
    (hsocket : t.socketPage = s.socketPage) (hhead : t.headPage = s.headPage) (hslots : t.slots = s.slots)
    (hfetch : t.fetchIndex = s.fetchIndex)
    (hduty : ∀ h : HeadIx, t.heads[h].online = s.heads[h].online ∧ t.heads[h].faulted = s.heads[h].faulted) :
    t.book = s.book := by
  have horder : t.order = s.order := by
    funext h k
    simp only [State.order, hslots]
  unfold State.book
  simp only [hmode, hzone, hsocket, hhead, horder, hfetch, hduty]

@[simp] theorem book_captureFault (f : FaultReport) (s : State) : (captureFault f s).book = s.book := by
  have hf := captureFault_only f s
  exact book_of_fields hf.mode hf.zonePage hf.socketPage hf.headPage hf.slots hf.fetchIndex fun h => by
    simp only [hf.heads, and_self]

/-! ### Steps that keep the orders as they are -/

/-- A socket as SETUP has it: DISABLED and unreserved (R105). -/
def Socket.Parked (x : Socket) : Prop := x.phase = .disabled ∧ x.reservation = none

/-- The book stays, a zone without a holder stays so, and a DISABLED unreserved socket stays so. -/
structure KeepsOrders (s t : State) : Prop where
  book : t.book = s.book
  holder : ∀ z : ZoneIx, s.zones[z].holder = none → t.zones[z].holder = none
  parked : ∀ i : SocketIx, s.sockets[i].Parked → t.sockets[i].Parked

section

variable {s t u : State}

theorem KeepsOrders.refl : KeepsOrders s s := ⟨rfl, fun _ => id, fun _ => id⟩

theorem KeepsOrders.trans (h : KeepsOrders s t) (k : KeepsOrders t u) : KeepsOrders s u :=
  ⟨k.book.trans h.book, fun z hz => k.holder z (h.holder z hz), fun i hi => k.parked i (h.parked i hi)⟩

theorem KeepsOrders.of_eq (hbook : t.book = s.book) (hzones : t.zones = s.zones) (hsockets : t.sockets = s.sockets) :
    KeepsOrders s t :=
  ⟨hbook, fun z hz => by rw [hzones]; exact hz, fun i hi => by rw [hsockets]; exact hi⟩

/-- In SETUP the book shows every slot FREE or FILLING and every head OFFLINE (R28). -/
theorem setupStill_iff (s : State) : SetupStill s ↔ (s.book.mode = .setup →
    (∀ h k, (s.book.order h k).state = .free ∨ (s.book.order h k).state = .filling) ∧
    (∀ z : ZoneIx, s.zones[z].holder = none) ∧ (∀ i : SocketIx, s.sockets[i].Parked) ∧
    ∀ h : HeadIx, s.book.online h = false) := Iff.rfl

theorem KeepsOrders.sound (h : KeepsOrders s t) (hs : OrdersSound s) : OrdersSound t := by
  rw [ordersSound_iff, setupStill_iff] at hs ⊢
  obtain ⟨hstill, hbook⟩ := hs
  rw [h.book]
  refine ⟨fun hm => ?_, hbook⟩
  obtain ⟨horders, hzones, hsockets, hheads⟩ := hstill hm
  exact ⟨horders, fun z => h.holder z (hzones z), fun i => h.parked i (hsockets i), hheads⟩

/-- In RUN only the book counts. -/
theorem ordersSound_of_run (hmode : t.book.mode = .run) (hbook : t.book.Sound) : OrdersSound t := by
  refine (ordersSound_iff t).mpr ⟨fun hm => ?_, hbook⟩
  rw [show t.mode = .run from hmode] at hm
  cases hm

theorem OrdersSound.book (hs : OrdersSound s) : s.book.Sound := ((ordersSound_iff s).mp hs).2

end

theorem captureFault_keeps (f : FaultReport) (s : State) : KeepsOrders s (captureFault f s) :=
  .of_eq (book_captureFault f s) (captureFault_only f s).zones (captureFault_only f s).sockets

/-! ### Head records: causes and stray source sets -/

theorem setHead_keeps {h : HeadIx} {x : HeadRec} {s : State} (honline : x.online = s.heads[h].online)
    (hfaulted : x.faulted = s.heads[h].faulted) : KeepsOrders s (s.setHead h x) :=
  .of_eq (book_setHead_same honline hfaulted) rfl rfl

theorem giveCause_keeps (c : Cause) (h : HeadIx) (s : State) : KeepsOrders s (giveCause c h s) := setHead_keeps rfl rfl

theorem giveCauseOnline_keeps (c : Cause) (h : HeadIx) (s : State) : KeepsOrders s (giveCauseOnline c h s) := by
  unfold giveCauseOnline
  split_ifs
  · exact giveCause_keeps c h s
  · exact .refl

theorem mapHeadsConcerned_keeps {f : HeadRec → HeadRec}
    (hf : ∀ r, (f r).online = r.online ∧ (f r).faulted = r.faulted) (l : Line) (s : State) :
    KeepsOrders s (mapHeadsConcerned l f s) := by
  refine .of_eq (book_of_fields rfl rfl rfl rfl rfl rfl fun h => ?_) rfl rfl
  simp only [mapHeadsConcerned, getElem_ofFn_fin]
  split_ifs
  · exact hf _
  · exact ⟨rfl, rfl⟩

theorem HeadRec.withoutOpen_duty (r : HeadRec) (l : Line) :
    (r.withoutOpen l).online = r.online ∧ (r.withoutOpen l).faulted = r.faulted := by
  unfold HeadRec.withoutOpen
  split <;> exact ⟨rfl, rfl⟩

theorem HeadRec.openFaulted_duty (r : HeadRec) (l : Line) :
    (r.openFaulted l).online = r.online ∧ (r.openFaulted l).faulted = r.faulted := by
  unfold HeadRec.openFaulted
  split <;> exact ⟨rfl, rfl⟩

theorem dropOpenEntries_keeps (l : Line) (s : State) : KeepsOrders s (dropOpenEntries l s) :=
  mapHeadsConcerned_keeps (fun r => r.withoutOpen_duty l) l s

theorem faultOpenEntries_keeps (l : Line) (s : State) : KeepsOrders s (faultOpenEntries l s) :=
  mapHeadsConcerned_keeps (fun r => r.openFaulted_duty l) l s

theorem chargeOpen_keeps (l : Line) (s : State) : KeepsOrders s (chargeOpen l s) := by
  unfold chargeOpen
  split
  · exact setHead_keeps rfl rfl
  · exact .refl

theorem chargeFaulted_keeps (l : Line) (s : State) : KeepsOrders s (chargeFaulted l s) := by
  unfold chargeFaulted
  split
  · exact setHead_keeps rfl rfl
  · exact .refl

/-! ### Sockets, nozzles and lines -/

/-- A socket record may be replaced, if it stays DISABLED and unreserved where it was. -/
theorem setSocket_keeps {i : SocketIx} {x : Socket} {s : State} (hx : s.sockets[i].Parked → x.Parked) :
    KeepsOrders s (s.setSocket i x) := by
  refine ⟨rfl, fun _ => id, fun j hj => ?_⟩
  rw [State.setSocket_sockets, getElem_set_fin]
  split_ifs with hji
  · exact hx (hji ▸ hj)
  · exact hj

theorem setNozzle_keeps (h : HeadIx) (n : NozzleId) (x : Nozzle) (s : State) : KeepsOrders s (s.setNozzle h n x) :=
  .of_eq rfl rfl rfl

theorem setContent_keeps (h : HeadIx) (n : NozzleId) (c : NozzleContent) (s : State) :
    KeepsOrders s (setContent h n c s) := setNozzle_keeps h n _ s

theorem setSensor_keeps (l : Line) (x : Sensor) (s : State) : KeepsOrders s (setSensor l x s) := by
  cases l with
  | presence i => exact setSocket_keeps id
  | grip h n => exact setNozzle_keeps h n _ s

theorem quietLine_keeps (l : Line) (s : State) : KeepsOrders s (quietLine l s) :=
  (setSensor_keeps l .quiet s).trans (dropOpenEntries_keeps l _)

theorem disturbLine_keeps (l : Line) (s : State) : KeepsOrders s (disturbLine l s) :=
  (setSensor_keeps l _ s).trans (chargeOpen_keeps l _)

theorem compareLine_keeps (l : Line) (s : State) : KeepsOrders s (compareLine l s) := by
  unfold compareLine
  split
  · split
    · exact .refl
    · exact quietLine_keeps l s
  · split_ifs
    · split
      · exact setSensor_keeps l _ s
      · exact .refl
    · split
      · exact .refl
      · exact disturbLine_keeps l s

theorem compareLines_keeps (ls : List Line) (s : State) : KeepsOrders s (compareLines ls s) := by
  induction ls generalizing s with
  | nil => exact .refl
  | cons l rest ih => exact (compareLine_keeps l s).trans (ih _)

/-- A socket that is not DISABLED may change its state. -/
theorem changePhase_keeps {i : SocketIx} {p : Phase} {s : State} (hi : s.sockets[i].phase ≠ .disabled) :
    KeepsOrders s (changePhase i p s) := by
  have hset : KeepsOrders s (s.setSocket i { s.sockets[i] with phase := p }) :=
    setSocket_keeps fun hp => absurd hp.1 hi
  unfold changePhase
  dsimp only
  split_ifs
  · exact hset
  · exact hset.trans (quietLine_keeps _ _)

@[simp] theorem book_compareLine (l : Line) (s : State) : (compareLine l s).book = s.book :=
  (compareLine_keeps l s).book

@[simp] theorem book_compareLines (ls : List Line) (s : State) : (compareLines ls s).book = s.book :=
  (compareLines_keeps ls s).book

@[simp] theorem book_setContent (h : HeadIx) (n : NozzleId) (c : NozzleContent) (s : State) :
    (setContent h n c s).book = s.book := rfl

@[simp] theorem book_changePhase (i : SocketIx) (p : Phase) (s : State) : (changePhase i p s).book = s.book := by
  unfold changePhase
  dsimp only
  split_ifs
  · rfl
  · exact (quietLine_keeps _ _).book

@[simp] theorem book_commandPhase (i : SocketIx) (p : Phase) (s : State) : (commandPhase i p s).book = s.book := by
  unfold commandPhase
  rw [book_compareLine, book_changePhase]

/-! ### Line events and expiries -/

theorem setFilter_keeps (l : Line) (f : LineFilter) (s : State) : KeepsOrders s (setFilter l f s) := by
  cases l <;> exact .of_eq rfl rfl rfl

theorem seatVacate_keeps (i : SocketIx) (level : Bool) (s : State) : KeepsOrders s (seatVacate i level s) := by
  unfold seatVacate
  split
  next hp => exact changePhase_keeps (by rw [hp]; exact nofun)
  next hp => exact changePhase_keeps (by rw [hp]; exact nofun)
  next => exact .refl

theorem takeLevelChange_keeps (l : Line) (s : State) : KeepsOrders s (takeLevelChange l s) := by
  have hown : ∀ level t, KeepsOrders t (ownerOnChange l level t) := by
    intro level t
    cases l with
    | presence i => exact seatVacate_keeps i level t
    | grip h n => exact .refl
  unfold takeLevelChange
  dsimp only
  split_ifs
  · exact (setFilter_keeps l _ s).trans ((hown _ _).trans (compareLine_keeps l _))
  · exact .refl

theorem takeSeatExpiry_keeps (i : SocketIx) (s : State) : KeepsOrders s (takeSeatExpiry i s) := by
  unfold takeSeatExpiry
  split
  next hp =>
    exact (changePhase_keeps (by rw [hp]; exact nofun)).trans <|
      (giveCauseOnline_keeps _ _ _).trans (captureFault_keeps _ _)
  next => exact .refl

theorem takeVacateExpiry_keeps (i : SocketIx) (s : State) : KeepsOrders s (takeVacateExpiry i s) := by
  unfold takeVacateExpiry
  split
  next hp =>
    exact (changePhase_keeps (by rw [hp]; exact nofun)).trans <|
      (giveCauseOnline_keeps _ _ _).trans (captureFault_keeps _ _)
  next => exact .refl

theorem socketLineFault_keeps (i : SocketIx) (s : State) : KeepsOrders s (socketLineFault i s) := by
  have hfault : ∀ p f, s.sockets[i].phase ≠ .disabled → KeepsOrders s (captureFault f (changePhase i p s)) :=
    fun p f hp => (changePhase_keeps hp).trans (captureFault_keeps f _)
  unfold socketLineFault
  dsimp only
  split
  next hp => exact hfault _ _ (by rw [hp]; exact nofun)
  next hp => exact hfault _ _ (by rw [hp]; exact nofun)
  next hp => exact hfault _ _ (by rw [hp]; exact nofun)
  next hp => exact hfault _ _ (by rw [hp]; exact nofun)
  next => exact .refl

theorem nozzleLineFault_keeps (h : HeadIx) (n : NozzleId) (s : State) : KeepsOrders s (nozzleLineFault h n s) := by
  unfold nozzleLineFault
  dsimp only
  split
  · exact (setContent_keeps h n _ s).trans (captureFault_keeps _ _)
  · exact (setContent_keeps h n _ s).trans (captureFault_keeps _ _)
  · exact .refl

theorem takeDisturbExpiry_keeps (l : Line) (s : State) : KeepsOrders s (takeDisturbExpiry l s) := by
  have hown : ∀ t, KeepsOrders t (ownerFault l t) := by
    intro t
    cases l with
    | presence i => exact socketLineFault_keeps i t
    | grip h n => exact nozzleLineFault_keeps h n t
  unfold takeDisturbExpiry
  split_ifs
  · exact (faultOpenEntries_keeps l s).trans <| (chargeFaulted_keeps l _).trans <|
      (hown _).trans (compareLine_keeps l _)
  · exact .refl

theorem takeRecoverExpiry_keeps (l : Line) (s : State) : KeepsOrders s (takeRecoverExpiry l s) := by
  unfold takeRecoverExpiry
  split_ifs
  · exact quietLine_keeps l s
  · exact .refl

theorem leaveLists_keeps (h : HeadIx) (s : State) : KeepsOrders s (leaveLists h s) := by
  have hsockets : (leaveLists h s).sockets = s.sockets := by dsimp only [leaveLists]
  refine ⟨book_leaveLists h s, fun z hz => ?_, fun i hi => ?_⟩
  · rw [leaveLists_zone]
    exact hz
  · rw [hsockets]
    exact hi

theorem setHoldTimer_keeps (h : HeadIx) (x : HoldTimer) (s : State) : KeepsOrders s (s.setHoldTimer h x) :=
  .of_eq rfl rfl rfl

theorem stopHolding_keeps (h : HeadIx) (s : State) : KeepsOrders s (stopHolding h s) :=
  (leaveLists_keeps h s).trans (setHoldTimer_keeps h _ _)

/-! ### Orders that end where they stand -/

/-- In SETUP no order is live (R28). -/
theorem SetupStill.not_live {s : State} (hs : SetupStill s) (hm : s.mode = .setup) (h : HeadIx) (k : SlotIx) :
    (s.order h k).state.live = false := by
  obtain ⟨horders, -⟩ := hs hm
  obtain hf | hf := horders h k <;> rw [hf] <;> rfl

/-- A live order is found in RUN only (R28). -/
theorem OrdersSound.run_of_live {s : State} (hs : OrdersSound s) {h : HeadIx} {k : SlotIx}
    (hlive : (s.order h k).state.live = true) : s.mode = .run := by
  cases hm : s.mode with
  | run => rfl
  | setup => rw [((ordersSound_iff s).mp hs).1.not_live hm h k] at hlive; cases hlive

theorem OrderState.live_of_held {o : OrderState} (h : o.held = true) : o.live = true := by
  cases o with
  | socketWait | zoneWait => rfl
  | _ => cases h

/-- An order in RUN may be refused. -/
theorem refuseOrder_sound {s : State} (hs : OrdersSound s) (hm : s.mode = .run) (h : HeadIx) (k : SlotIx) (r : Reason)
    (skip : Bool) : OrdersSound (refuseOrder h k r skip s) := by
  refine ordersSound_of_run hm ?_
  rw [book_refuseOrder]
  exact hs.book.setOrder_of_not_live rfl

/-- A held order is found in RUN only. -/
theorem OrdersSound.run_of_held {s : State} (hs : OrdersSound s) {h : HeadIx}
    (hheld : (s.orderAt h).state.held = true) : s.mode = .run :=
  hs.run_of_live (OrderState.live_of_held hheld)

theorem takeHoldExpiry_sound (h : HeadIx) {s : State} (hs : OrdersSound s) : OrdersSound (takeHoldExpiry h s) := by
  have hstop := stopHolding_keeps h s
  unfold takeHoldExpiry
  dsimp only
  split_ifs with hdue hheld
  · exact refuseOrder_sound (hstop.sound hs) ((congrArg OrderBook.mode hstop.book).trans (hs.run_of_held hheld)) _ _ _ _
  · exact hstop.sound hs
  · exact hs

theorem takeEvent_sound (e : TimedEvent) {s : State} (hs : OrdersSound s) : OrdersSound (takeEvent e s) := by
  cases e with
  | level l => exact (takeLevelChange_keeps l s).sound hs
  | hold h => exact takeHoldExpiry_sound h hs
  | seat i => exact (takeSeatExpiry_keeps i s).sound hs
  | vacate i => exact (takeVacateExpiry_keeps i s).sound hs
  | disturb l => exact (takeDisturbExpiry_keeps l s).sound hs
  | recover l => exact (takeRecoverExpiry_keeps l s).sound hs

theorem settleFor_sound (n : Nat) {s : State} (hs : OrdersSound s) : OrdersSound (settleFor n s) := by
  induction n generalizing s with
  | zero => exact hs
  | succ n ih =>
    unfold settleFor
    split
    · exact hs
    · refine ih (takeEvent_sound _ (KeepsOrders.sound (s := s) ?_ hs))
      exact .of_eq rfl rfl rfl

theorem sampleTick_keeps (p : BitVec 16) (g : BitVec 8) (s : State) : KeepsOrders s (sampleTick p g s) := by
  refine ⟨rfl, fun _ => id, fun i hi => ?_⟩
  obtain ⟨hphase, hres⟩ := hi
  simp only [sampleTick, getElem_ofFn_fin, Socket.Parked, Socket.tick, hphase, hres, Phase.tick, and_self]

theorem portClock_sound {s : State} (hs : OrdersSound s) : OrdersSound (portClock s) := by
  have hsettled : OrdersSound (settle s) := settleFor_sound 128 hs
  unfold portClock
  dsimp only
  split_ifs
  · exact KeepsOrders.sound (s := settle s) (.of_eq rfl rfl rfl) hsettled
  · exact (sampleTick_keeps _ _ _).sound hsettled

/-! ### Fetches (R59 to R77) -/

theorem chainOf_pos {l : List (Option Leg)} {legs : List Leg} (h : chainOf l = some legs) : 0 < legs.length := by
  cases l with
  | nil => cases h
  | cons x rest =>
    cases x with
    | none => cases h
    | some m =>
      rw [chainOf] at h
      split_ifs at h
      · obtain ⟨tail, -, rfl⟩ := Option.map_eq_some_iff.mp h
        exact Nat.succ_pos _
      · cases h
        exact Nat.succ_pos _

/-- An order that passes the static checks has a leg (R37, R49). -/
theorem chain_pos_of_postFailure {s : State} {h : HeadIx} {o : Order} (hf : postFailure s h o = none) :
    0 < o.chain.length := by
  unfold postFailure staticFailure at hf
  split_ifs at hf
  unfold Order.chain
  cases hc : o.chain? with
  | none => rw [hc] at hf; cases hf
  | some legs => exact chainOf_pos hc

namespace OrderBook

/-- Slot k of head h can be evaluated: it is at the fetch index, POSTED or held, and the head is online and not faulted
(R61, R62). -/
structure Fetchable (b : OrderBook) (h : HeadIx) (k : SlotIx) : Prop where
  index : k = b.fetchIndex h
  online : b.online h = true
  unfaulted : b.faulted h = false
  live : (b.order h k).state.live = true
  waiting : (b.order h k).state ≠ .cleared

variable {b : OrderBook} {h : HeadIx} {k : SlotIx} {o : Order}

/-- An order that can be evaluated may take any state, with its legs and its count of legs completed. -/
theorem Sound.setOrder_fetchable (hb : b.Sound) (hk : b.Fetchable h k) (hlegs : o.legs = (b.order h k).legs)
    (hcompleted : o.completed = (b.order h k).completed) : (b.setOrder h k o).Sound := by
  refine hb.setOrder (fun _ => ?_) fun _ => ⟨hk.index, hk.online, hk.unfaulted⟩
  obtain ⟨hpass, hzero, -⟩ := hb.fits h k hk.live
  have hpass' : b.postFailure h o = none := (b.postFailure_of_legs h hlegs).trans hpass
  have hnone : o.completed = 0 := hcompleted.trans (hzero hk.waiting)
  exact ⟨hpass', fun _ => hnone, fun _ => hnone ▸ chain_pos_of_postFailure hpass'⟩

end OrderBook

theorem book_foldl {α : Type} {f : State → α → State} (hf : ∀ t a, (f t a).book = t.book) (l : List α) (s : State) :
    (l.foldl f s).book = s.book := by
  induction l generalizing s with
  | nil => rfl
  | cons a rest ih => exact (ih _).trans (hf s a)

@[simp] theorem book_joinSockets (h : HeadIx) (l : List SocketIx) (s : State) : (joinSockets h l s).book = s.book :=
  book_foldl (f := fun t i => joinSocketList h i t) (fun _ _ => rfl) l s

@[simp] theorem book_joinZones (h : HeadIx) (l : List ZoneIx) (s : State) : (joinZones h l s).book = s.book := by
  refine book_foldl (fun t z => ?_) l s
  unfold joinZoneList
  split_ifs <;> rfl

@[simp] theorem book_claimZones (h : HeadIx) (l : List ZoneIx) (s : State) : (claimZones h l s).book = s.book :=
  book_foldl (f := fun t z => claimZone h z t) (fun _ _ => rfl) l s

@[simp] theorem book_reserveSockets (h : HeadIx) (k : SlotIx) (l : List SocketIx) (s : State) :
    (reserveSockets h k l s).book = s.book :=
  book_foldl (f := fun t i => reserveSocket h k i t) (fun _ _ => rfl) l s

section

variable {h : HeadIx} {k : SlotIx} {s : State}

theorem refuseAtFetch_sound (hb : s.book.Sound) (hk : k = s.book.fetchIndex h) (r : Reason) :
    (refuseAtFetch h k r s).book.Sound := by
  simp only [refuseAtFetch, book_answer, book_advanceFetch, book_refuseOrder, book_stopHolding]
  exact hb.endOrder hk rfl _

theorem keepHeld_sound (hb : s.book.Sound) : (keepHeld h k s).book.Sound := by
  simp only [keepHeld, book_answer, book_setOrder]
  exact hb.setOrder_same rfl rfl rfl

theorem enterHeld_sound (hb : s.book.Sound) (hk : s.book.Fetchable h k) (st : OrderState)
    (fromPosted : Bool) : (enterHeld h k st fromPosted s).book.Sound := by
  have hend : ∀ t : State, t.book.Sound → k = t.book.fetchIndex h →
      (if waitCycle t then refuseAtFetch h k .deadlock t else keepHeld h k t).book.Sound := by
    intro t ht hkt
    by_cases hc : waitCycle t = true
    · rw [if_pos hc]
      exact refuseAtFetch_sound ht hkt _
    · rw [if_neg hc]
      exact keepHeld_sound ht
  have hset := hb.setOrder_fetchable hk (o := { s.order h k with state := st }) rfl rfl
  have hstart : ∀ t, (if fromPosted then startHold h t else t).book = t.book := by
    intro t
    cases fromPosted <;> rfl
  refine hend _ ?_ ?_ <;> rw [hstart, book_setOrder]
  · exact hset
  · exact hk.index

theorem clearOrder_sound (hb : s.book.Sound) (hk : s.book.Fetchable h k) (legs : List Leg) :
    (clearOrder h k legs s).book.Sound := by
  have hclear : ∀ t : State, t.book = s.book →
      (t.setOrder h k
        { t.order h k with state := .cleared, blocker := none, resolved := some t.pointers[h] }).book.Sound := by
    intro t ht
    rw [book_setOrder, ht]
    have horder : t.order h k = s.book.order h k := congrArg (fun b => b.order h k) ht
    exact hb.setOrder_fetchable hk (by rw [horder]) (by rw [horder])
  unfold clearOrder
  dsimp only
  rw [book_answer, book_compareLines]
  exact hclear _ (by simp only [book_pendTags, book_stopHolding, book_reserveSockets, book_claimZones])

theorem zoneStage_sound (hb : s.book.Sound) (hk : s.book.Fetchable h k) (legs : List Leg) :
    (zoneStage h k legs s).book.Sound := by
  unfold zoneStage
  dsimp only
  split_ifs
  · exact refuseAtFetch_sound hb hk.index _
  · exact keepHeld_sound hb
  · refine enterHeld_sound ?_ ?_ _ _ <;> rw [book_joinZones]
    · exact hb
    · exact hk
  · exact clearOrder_sound hb hk legs

theorem evaluate_sound (hb : s.book.Sound) (hk : s.book.Fetchable h k) : (evaluate h k s).book.Sound := by
  unfold evaluate
  dsimp only
  split
  · exact refuseAtFetch_sound hb hk.index _
  · split_ifs
    · exact refuseAtFetch_sound hb hk.index _
    · exact keepHeld_sound hb
    · refine enterHeld_sound ?_ ?_ _ _ <;> rw [book_joinSockets]
      · exact hb
      · exact hk
    · exact zoneStage_sound hb hk _

theorem fetchLive_sound (hb : s.book.Sound) (hk : k = s.book.fetchIndex h) (honline : s.heads[h].online = true)
    (hlive : (s.order h k).state.live = true) (hwaiting : (s.order h k).state ≠ .cleared) :
    (fetchLive h k s).book.Sound := by
  unfold fetchLive
  split_ifs with hfaulted hmasked hhalt
  · exact hb
  · exact hb
  · exact hb
  · exact evaluate_sound hb ⟨hk, honline, Bool.eq_false_of_not_eq_true hfaulted, hlive, hwaiting⟩

theorem passOver_sound (hb : s.book.Sound) (hk : k = s.book.fetchIndex h) {r : Reason}
    (hr : (s.order h k).state = .refused r) : (passOver h k r s).book.Sound := by
  unfold passOver
  split_ifs
  · exact hb
  · rw [book_answer, book_advanceFetch, book_setOrder]
    exact hb.endOrder hk (by rw [hr]; rfl) _

theorem fetchAtIndex_sound (hb : s.book.Sound) (hk : k = s.book.fetchIndex h) (honline : s.heads[h].online = true) :
    (fetchAtIndex h k s).book.Sound := by
  unfold fetchAtIndex
  cases hstate : (s.order h k).state
  case free | filling | done | aborted | cleared => exact hb
  case refused r => exact passOver_sound hb hk hstate
  case posted | socketWait | zoneWait =>
    exact fetchLive_sound hb hk honline (by rw [hstate]; rfl) (by rw [hstate]; exact nofun)

end

theorem grant_keeps (src : Source) (s : State) : KeepsOrders s (s.grant src) := .of_eq rfl rfl rfl

theorem returnWord_keeps (src : Source) (w : Word) (s : State) : KeepsOrders s (returnWord src w s) := by
  cases src <;> exact .of_eq rfl rfl rfl

theorem setCounters_keeps (h : HeadIx) (c : HeadCounters) (s : State) : KeepsOrders s (s.setCounters h c) :=
  .of_eq rfl rfl rfl

theorem fetchOutOfOrder_keeps (h : HeadIx) (k : SlotIx) (s : State) : KeepsOrders s (fetchOutOfOrder h k s) :=
  (setCounters_keeps h _ s).trans ((captureFault_keeps _ _).trans (returnWord_keeps (.drive h) _ _))

theorem fetchHeader_sound (h : HeadIx) (k : SlotIx) {s : State} (hs : OrdersSound s) :
    OrdersSound (fetchHeader h k s) := by
  have hg := (grant_keeps (.drive h) s).sound hs
  unfold fetchHeader
  dsimp only
  split_ifs with hoff hindex
  · exact (returnWord_keeps (.drive h) _ _).sound hg
  · obtain ⟨hm, -, honline⟩ := not_or.mp hoff |>.imp_right not_or.mp
    have hrun : (s.grant (.drive h)).mode = .run := by
      cases hmode : (s.grant (.drive h)).mode with
      | run => rfl
      | setup => exact absurd hmode hm
    exact ordersSound_of_run ((fetchAtIndex_drive h k _).mode.trans hrun)
      (fetchAtIndex_sound hg.book hindex (Bool.eq_true_of_not_eq_false honline))
  · exact (fetchOutOfOrder_keeps h k _).sound hg

/-! ### Reports (R84 to R98) -/

theorem headState_moving {s : State} {h : HeadIx} (hm : headState s h = .moving) :
    s.heads[h].online = true ∧ s.heads[h].faulted = false ∧ (s.orderAt h).state = .cleared := by
  unfold headState at hm
  split_ifs at hm with honline hfaulted
  refine ⟨by simpa using honline, Bool.eq_false_of_not_eq_true hfaulted, ?_⟩
  cases hstate : (s.orderAt h).state with
  | cleared => rfl
  | _ => rw [hstate] at hm; cases hm

@[simp] theorem book_pickTaken (i : SocketIx) (h : HeadIx) (s : State) : (pickTaken i h s).book = s.book :=
  book_changePhase i _ s

@[simp] theorem book_pickMissed (i : SocketIx) (s : State) : (pickMissed i s).book = s.book := book_changePhase i _ s

@[simp] theorem book_unitPlaced (i : SocketIx) (h : HeadIx) (u : UnitRec) (s : State) :
    (unitPlaced i h u s).book = s.book := book_changePhase i _ s

@[simp] theorem book_placeMissed (i : SocketIx) (s : State) : (placeMissed i s).book = s.book := by
  unfold placeMissed
  split
  · rfl
  · exact book_changePhase i _ s
  · exact book_changePhase i _ s

theorem book_pickInput (h : HeadIx) (n : NozzleId) (l : Leg) (s : State) : (pickInput h n l s).1.book = s.book := by
  unfold pickInput
  dsimp only
  split <;> rfl

theorem book_pickSite (h : HeadIx) (n : NozzleId) (i : SocketIx) (s : State) : (pickSite h n i s).1.book = s.book := by
  unfold pickSite
  split
  · exact book_pickMissed i s
  · exact book_pickMissed i s
  · split
    · exact book_pickTaken i h _
    · rfl
  · rfl

theorem book_placeSite (h : HeadIx) (n : NozzleId) (i : SocketIx) (s : State) :
    (placeSite h n i s).1.book = s.book := by
  have hplace : (placeUnit h n i s).book = s.book := by
    unfold placeUnit
    split
    · exact book_unitPlaced i h _ _
    · rfl
  unfold placeSite
  split_ifs
  · exact book_placeMissed i s
  · exact book_placeMissed i s
  · rfl
  · exact book_placeMissed i s
  · exact hplace

theorem book_placeBin (h : HeadIx) (n : NozzleId) (s : State) : (placeBin h n s).1.book = s.book := by
  have hdeliver : (deliverUnit h n s).book = s.book := by
    unfold deliverUnit
    split
    · split <;> rfl
    · rfl
  unfold placeBin
  split_ifs
  · rfl
  · rfl
  · exact hdeliver

@[simp] theorem book_legEffect (h : HeadIx) (p : NozzleId) (l : Leg) (s : State) :
    (legEffect h p l s).1.book = s.book := by
  unfold legEffect
  dsimp only
  split
  · exact book_pickInput h _ l s
  · exact book_pickSite h _ _ s
  · exact book_placeSite h _ _ s
  · exact book_placeBin h _ s
  · rfl

@[simp] theorem book_setResting (h : HeadIx) (z : Option ZoneIx) (s : State) : (setResting h z s).book = s.book :=
  (setHead_keeps (x := { s.heads[h] with resting := z }) rfl rfl).book

@[simp] theorem book_releaseTo (h : HeadIx) (z : ZoneIx) (keep : List ZoneIx) (s : State) :
    (releaseTo h z keep s).book = s.book :=
  (book_setResting h _ _).trans (book_releaseBut h _ s)

@[simp] theorem book_flipPointer (h : HeadIx) (legs : List Leg) (s : State) : (flipPointer h legs s).book = s.book := by
  unfold flipPointer
  split_ifs <;> rfl

@[simp] theorem book_giveAbortCause (c : AbortCode) (h : HeadIx) (s : State) :
    (giveAbortCause c h s).book = s.book := by
  unfold giveAbortCause
  split
  · exact (giveCause_keeps _ h s).book
  · rfl

@[simp] theorem book_orderDone (h : HeadIx) (k : SlotIx) (legs : List Leg) (l : Leg) (s : State) :
    (orderDone h k legs l s).book =
      (s.book.setOrder h k { s.book.order h k with state := .done }).setFetch h (s.book.fetchIndex h + 1) := by
  simp only [orderDone, book_advanceFetch, book_setOrderState, book_flipPointer, book_releaseTo,
    OrderBook.setOrder_fetchIndex]

@[simp] theorem book_orderAborted (h : HeadIx) (k : SlotIx) (c : AbortCode) (l : Leg) (after : List Leg) (s : State) :
    (orderAborted h k c l after s).book =
      (s.book.setOrder h k { s.book.order h k with state := .aborted c }).setFetch h (s.book.fetchIndex h + 1) := by
  simp only [orderAborted, book_captureFault, book_advanceFetch, book_setOrderState, book_releaseTo,
    book_giveAbortCause, book_unpendTags, book_dropReservationsBut, OrderBook.setOrder_fetchIndex]

@[simp] theorem book_legFailSockets (l : List SocketIx) (s : State) : (legFailSockets l s).book = s.book :=
  book_foldl (f := fun t i => legFailSocket i t) (fun t i => book_changePhase i _ t) l s

@[simp] theorem book_suspectNozzles (h : HeadIx) (p : NozzleId) (legs : List Leg) (s : State) :
    (suspectNozzles h p legs s).book = s.book :=
  book_foldl (f := fun t n => suspectNozzle h n t) (fun _ _ => rfl) _ s

@[simp] theorem book_faultHead (h : HeadIx) (s : State) :
    (faultHead h s).book = s.book.setDuty h (s.book.online h) true := book_setHead h _ s

section

variable {h : HeadIx} {k : SlotIx} {s : State}

/-- A report done of a leg of a CLEARED order: one leg more is completed, or the order ends. -/
theorem completeLeg_sound (hb : s.book.Sound) (hk : k = s.book.fetchIndex h) (hcleared : (s.order h k).state = .cleared)
    (j : Nat) (l : Leg) : (completeLeg h k (s.order h k).chain j l s).book.Sound := by
  have hactive : (s.book.order h k).state.active = true := hcleared ▸ rfl
  have hfits := hb.fits h k (OrderState.live_of_active hactive)
  have hduty := (hb.inPlace h).onDuty (hk ▸ hactive)
  unfold completeLeg
  dsimp only
  rw [book_compareLines]
  split
  next c _ =>
    simp only [book_orderAborted, book_dropReservationsBut, book_setCompleted, book_legEffect,
      OrderBook.setOrder_order_same, OrderBook.setOrder_setOrder, OrderBook.setOrder_fetchIndex]
    exact hb.endOrder hk rfl _
  next =>
    split_ifs with hlast
    · simp only [book_orderDone, book_dropReservationsBut, book_setCompleted, book_legEffect,
        OrderBook.setOrder_order_same, OrderBook.setOrder_setOrder, OrderBook.setOrder_fetchIndex]
      exact hb.endOrder hk rfl _
    · simp only [book_releaseTo, book_dropReservationsBut, book_setCompleted, book_legEffect]
      have hleft : j + 1 < (s.order h k).chain.length := by simpa using hlast
      exact hb.setOrder (fun _ => ⟨hfits.1, fun hne => absurd hcleared hne, fun _ => hleft⟩) fun _ => ⟨hk, hduty⟩

theorem failLeg_sound (hb : s.book.Sound) (hk : k = s.book.fetchIndex h) (honline : s.heads[h].online = true)
    (legs rest : List Leg) (l : Leg) (code : BitVec 8) : (failLeg h k legs rest l code s).book.Sound := by
  simp only [failLeg, book_compareLines, book_captureFault, book_advanceFetch, book_faultHead, book_setOrderState,
    book_unpendTags, book_suspectNozzles, book_legFailSockets, OrderBook.setDuty_fetchIndex,
    OrderBook.setOrder_fetchIndex, OrderBook.setOrder_online]
  have hrest := hb.resting_setOrder (o := { s.book.order h k with state := .aborted .legFail }) hk rfl
  exact ((hb.setOrder_of_not_live rfl).setDuty hrest fun _ => honline).setFetch hrest _

theorem OrderState.live_of_cleared {o : OrderState} (h : o = .cleared) : o.live = true := h ▸ rfl

theorem reportError_keeps (h : HeadIx) (k : SlotIx) (s : State) : KeepsOrders s (reportError h k s) :=
  (setCounters_keeps h _ s).trans ((captureFault_keeps _ _).trans (giveCauseOnline_keeps _ _ _))

theorem reportAccepted_moving {w : Word} (ha : reportAccepted s h w = true) : headState s h = .moving := by
  simp only [reportAccepted, Bool.and_eq_true, beq_iff_eq] at ha
  exact ha.1.1

theorem takeLegDone_sound (w : Word) (hs : OrdersSound s) : OrdersSound (takeLegDone h w s) := by
  unfold takeLegDone
  dsimp only
  split
  next ha _ =>
    obtain ⟨-, -, hcleared⟩ := headState_moving (reportAccepted_moving ha)
    have hrun := hs.run_of_live (OrderState.live_of_cleared hcleared)
    exact ordersSound_of_run ((completeLeg_drive _ _ _ _ _ _).mode.trans hrun)
      (completeLeg_sound hs.book rfl hcleared _ _)
  next => exact (reportError_keeps h _ s).sound hs

theorem takeLegFailed_sound (w : Word) (hs : OrdersSound s) : OrdersSound (takeLegFailed h w s) := by
  unfold takeLegFailed
  dsimp only
  split
  next ha _ =>
    obtain ⟨honline, -, hcleared⟩ := headState_moving (reportAccepted_moving ha)
    have hrun := hs.run_of_live (OrderState.live_of_cleared hcleared)
    exact ordersSound_of_run ((failLeg_drive _ _ _ _ _ _ _).mode.trans hrun)
      (failLeg_sound hs.book rfl honline _ _ _ _)
  next => exact (reportError_keeps h _ s).sound hs

end

theorem passWrite_keeps (src : Source) (a : Nat) (w : Word) (s : State) : KeepsOrders s (passWrite src a w s) :=
  .of_eq rfl rfl rfl

theorem writeReport_sound (h : HeadIx) (w : Word) {s : State} (hs : OrdersSound s) :
    OrdersSound (writeReport h w s) := by
  have hw := (passWrite_keeps (.drive h) (reportAddr h) w s).sound hs
  unfold writeReport
  dsimp only
  split
  · exact takeLegDone_sound w hw
  · exact takeLegFailed_sound w hw
  · exact (reportError_keeps h _ _).sound hw

/-! ### Control words (R13, R31, R32, R156 to R166) -/

theorem controlWrite_sound {block : State → State × ControlResult}
    (hblock : ∀ s, OrdersSound s → OrdersSound (block s).1) (w : Word) {s : State} (hs : OrdersSound s) :
    OrdersSound (controlWrite w block s) := by
  have hdone := hblock _ ((passWrite_keeps .controller controlAddr w s).sound hs)
  exact KeepsOrders.sound (s := (block (passWrite .controller controlAddr w s)).1) (.of_eq rfl rfl rfl) hdone

theorem captureStrays_keeps (l : List SocketIx) (s : State) : KeepsOrders s (captureStrays l s) := by
  unfold captureStrays
  induction l generalizing s with
  | nil => exact .refl
  | cons i rest ih => exact (captureFault_keeps _ s).trans (ih _)

/-- The mode is no part of what RUN asks of the orders. -/
theorem OrderBook.Sound.setMode {b : OrderBook} (hb : b.Sound) (m : Mode) : OrderBook.Sound { b with mode := m } :=
  ⟨fun h => ⟨(hb.inPlace h).atIndex, (hb.inPlace h).onDuty, (hb.inPlace h).faultedOnline⟩, hb.fits⟩

theorem enterRun_sound {s : State} (hs : OrdersSound s) : OrdersSound (enterRun s) :=
  (captureStrays_keeps _ _).sound (ordersSound_of_run rfl (hs.book.setMode .run))

/-- A book without orders, all heads being offline. -/
theorem OrderBook.sound_of_empty {b : OrderBook} (horder : ∀ h k, b.order h k = Order.freed)
    (hfaulted : ∀ h, b.faulted h = false) : b.Sound := by
  have hlive : ∀ h k, (b.order h k).state.live = false := fun h k => by rw [horder]; rfl
  refine ⟨fun h => ⟨fun k hk => ?_, fun hk => ?_, fun hf => ?_⟩, fun h k => fits_of_not_live b h (hlive h k)⟩
  · rw [OrderState.active_of_not_live (hlive h k)] at hk; cases hk
  · rw [OrderState.active_of_not_live (hlive h _)] at hk; cases hk
  · rw [hfaulted] at hf; cases hf

theorem deckReset_sound (s : State) : OrdersSound (deckReset s) := by
  have horder : ∀ h k, (deckReset s).order h k = Order.freed := by
    intro h k
    simp [deckReset, takeSnapshot, deckCleared, State.order]
  have hhead : ∀ h : HeadIx, (deckReset s).heads[h] = .offDeck := by
    intro h
    simp [deckReset, takeSnapshot, deckCleared]
  rw [ordersSound_iff]
  refine ⟨fun _ => ⟨fun h k => ?_, fun z => ?_, fun i => ?_, fun h => ?_⟩,
    OrderBook.sound_of_empty horder fun h => congrArg HeadRec.faulted (hhead h)⟩
  · rw [horder]
    exact .inl rfl
  · simp [deckReset, takeSnapshot, deckCleared]
  · simp [deckReset, takeSnapshot, deckCleared, Socket.reset]
  · rw [hhead]
    rfl

section

variable {h : HeadIx} {s : State}

/-- A head whose order at its fetch index is held or CLEARED is WAITING or MOVING (R154). -/
theorem headState_of_active (hb : s.book.Sound) (ha : (s.orderAt h).state.active = true) :
    headState s h = if (s.orderAt h).state = .cleared then .moving else .waiting := by
  obtain ⟨honline, hfaulted⟩ := (hb.inPlace h).onDuty ha
  have honline' : s.heads[h].online = true := honline
  have hfaulted' : s.heads[h].faulted = false := hfaulted
  unfold headState
  simp only [honline', hfaulted', Bool.not_true, Bool.false_eq_true, if_false]
  cases hstate : (s.orderAt h).state with
  | socketWait | zoneWait | cleared => rfl
  | _ => rw [hstate] at ha; cases ha

theorem resting_of_headState (hb : s.book.Sound) (hm : headState s h ≠ .moving) (hw : headState s h ≠ .waiting) :
    s.book.Resting h := by
  refine hb.resting (Bool.eq_false_of_not_eq_true fun ha => ?_)
  have hstate := headState_of_active hb ha
  split_ifs at hstate
  · exact hm hstate
  · exact hw hstate

theorem not_cleared_of_headState (hb : s.book.Sound) (hm : headState s h ≠ .moving) :
    (s.orderAt h).state ≠ .cleared := by
  intro hc
  have hstate := headState_of_active (h := h) hb (hc ▸ rfl)
  rw [if_pos hc] at hstate
  exact hm hstate

@[simp] theorem book_bringOnline (h : HeadIx) (z : ZoneIx) (f : SlotIx) (q : Seq) (s : State) :
    (bringOnline h z f q s).book = (s.book.setDuty h true false).setFetch h f := by
  simp only [bringOnline, book_compareLines, book_setExpectedSeq, book_setFetchIndex, book_setPointer, book_setContent,
    book_setHead]
  rfl

theorem resting_of_offline (hb : s.book.Sound) (hoff : s.heads[h].online = false) : s.book.Resting h := by
  refine hb.resting (Bool.eq_false_of_not_eq_true fun ha => ?_)
  obtain ⟨honline, -⟩ := (hb.inPlace h).onDuty ha
  rw [show s.book.online h = false from hoff] at honline
  cases honline

theorem takeHeadOnline_sound (w : Word) (hs : OrdersSound s) : OrdersSound (takeHeadOnline w s).1 := by
  unfold takeHeadOnline
  cases hm : s.mode with
  | setup => exact hs
  | run =>
    dsimp only
    split_ifs with hstate
    · exact hs
    · exact hs
    · exact hs
    · have hrest := resting_of_offline hs.book (Bool.eq_false_of_not_eq_true (not_or.mp hstate).2)
      refine ordersSound_of_run ?_ ?_ <;> dsimp only <;> rw [book_bringOnline]
      · exact hm
      · exact (hs.book.setDuty hrest fun _ => rfl).setFetch hrest _

/-- A WAITING head's order is refused; then no order of the head is held, nor CLEARED if none was. -/
theorem refuseWaiting_sound (hb : s.book.Sound) (hstate : (s.orderAt h).state ≠ .cleared) :
    (refuseWaiting h s).book.Sound ∧ (refuseWaiting h s).book.Resting h ∧ (refuseWaiting h s).book.mode = s.mode := by
  unfold refuseWaiting
  split_ifs with hheld
  · rw [book_refuseOrder, book_stopHolding]
    exact ⟨hb.setOrder_of_not_live rfl, hb.resting_setOrder rfl rfl, rfl⟩
  · refine ⟨hb, hb.resting ?_, rfl⟩
    show (s.orderAt h).state.active = false
    unfold OrderState.active
    rw [Bool.eq_false_of_not_eq_true hheld, beq_eq_false_iff_ne.mpr hstate]
    rfl

@[simp] theorem book_leaveResting (h : HeadIx) (s : State) : (leaveResting h s).book = s.book := by
  unfold leaveResting
  split
  · split_ifs <;> rfl
  · rfl

theorem takeOffDeck_sound (hs : OrdersSound s) (hm : s.mode = .run) (hstate : (s.orderAt h).state ≠ .cleared) :
    OrdersSound (takeOffDeck h s) := by
  obtain ⟨hsound, hrest, hmode⟩ := refuseWaiting_sound hs.book hstate
  have hbook : (takeOffDeck h s).book = (refuseWaiting h s).book.setDuty h false false := by
    simp only [takeOffDeck, book_compareLines, book_setHead, book_leaveResting]
    rfl
  refine ordersSound_of_run ?_ ?_ <;> rw [hbook]
  · exact hmode.trans hm
  · exact hsound.setDuty hrest nofun

theorem takeHeadOffline_sound (w : Word) (hs : OrdersSound s) : OrdersSound (takeHeadOffline w s).1 := by
  unfold takeHeadOffline
  cases hm : s.mode with
  | setup => exact hs
  | run =>
    dsimp only
    cases hstate : headState s (ctlHead w)
    case offline | moving | faulted => exact hs
    case idle | waiting =>
      have hcleared : (s.orderAt (ctlHead w)).state ≠ .cleared :=
        not_cleared_of_headState hs.book (by rw [hstate]; exact nofun)
      dsimp only
      split_ifs
      · dsimp only
        exact takeOffDeck_sound hs hm hcleared
      · exact hs

@[simp] theorem book_applyAction (h : HeadIx) (n : NozzleId) (a : NozzleAction) (s : State) :
    (applyAction h n a s).book = s.book := by
  cases a <;> rfl

@[simp] theorem book_recoverHead (h : HeadIx) (z : ZoneIx) (a b : NozzleAction) (s : State) :
    (recoverHead h z a b s).book = s.book.setDuty h (s.book.online h) false := by
  have hunfault : ∀ t : State, (t.setHead h { t.heads[h] with faulted := false }).book =
      t.book.setDuty h (t.book.online h) false := fun t => book_setHead h _ t
  simp only [recoverHead, book_compareLines, hunfault, book_releaseTo, book_applyAction]

theorem checkRecover_sound (hs : OrdersSound s) (hm : s.mode = .run) (z : ZoneIx) (a b : NozzleAction) :
    OrdersSound (checkRecover h z a b s).1 := by
  unfold checkRecover
  cases hstate : headState s h
  case offline | waiting | moving => exact hs
  case idle | faulted =>
    have hrest := resting_of_headState (h := h) hs.book (by rw [hstate]; exact nofun) (by rw [hstate]; exact nofun)
    dsimp only
    split_ifs
    · exact hs
    · split
      · exact hs
      · exact hs
      · refine ordersSound_of_run ?_ ?_ <;> rw [book_recoverHead]
        · exact hm
        · exact hs.book.setDuty hrest nofun

theorem takeHeadRecover_sound (w : Word) (hs : OrdersSound s) : OrdersSound (takeHeadRecover w s).1 := by
  unfold takeHeadRecover
  split
  · cases hm : s.mode with
    | setup => exact hs
    | run => exact checkRecover_sound hs hm _ _ _
  · exact hs

theorem takeModeRun_sound (hs : OrdersSound s) : OrdersSound (takeModeRun s).1 := by
  unfold takeModeRun
  cases s.mode with
  | run => exact hs
  | setup =>
    cases profileFailure s with
    | some f => exact KeepsOrders.sound (s := s) (.of_eq rfl rfl rfl) hs
    | none => exact enterRun_sound hs

theorem takeModeSetup_sound (hs : OrdersSound s) : OrdersSound (takeModeSetup s).1 := by
  unfold takeModeSetup
  cases s.mode with
  | setup => exact hs
  | run =>
    dsimp only
    split_ifs
    · exact hs
    · exact hs
    · exact deckReset_sound s

theorem takeMask_sound (w : Word) (hs : OrdersSound s) : OrdersSound (takeMask w s).1 := by
  unfold takeMask
  cases s.mode with
  | setup => exact hs
  | run =>
    dsimp only
    split_ifs
    · exact (giveCause_keeps _ _ s).sound hs
    · exact hs

theorem clearMask_keeps (h : HeadIx) (s : State) : KeepsOrders s (clearMask h s) := setHead_keeps rfl rfl

theorem takeMaskClear_sound (w : Word) (hs : OrdersSound s) : OrdersSound (takeMaskClear w s).1 := by
  unfold takeMaskClear
  cases s.mode with
  | setup => exact hs
  | run =>
    dsimp only
    split_ifs
    · exact (clearMask_keeps _ s).sound hs
    · exact hs

theorem takeDrain_sound (hs : OrdersSound s) : OrdersSound (takeDrain s).1 := by
  unfold takeDrain
  cases s.mode with
  | setup => exact hs
  | run => exact ordersSound_of_run rfl (hs.book.setMode .run)

theorem takeClearTallies_sound (hs : OrdersSound s) : OrdersSound (takeClearTallies s).1 := by
  unfold takeClearTallies
  split_ifs
  · exact KeepsOrders.sound (s := s) (.of_eq rfl rfl rfl) hs
  · exact hs

theorem commandBlock_sound (c : Command) (w : Word) (hs : OrdersSound s) : OrdersSound (commandBlock c w s).1 := by
  cases c with
  | modeRun => exact takeModeRun_sound hs
  | modeSetup => exact takeModeSetup_sound hs
  | deckReset => exact deckReset_sound s
  | headOnline => exact takeHeadOnline_sound w hs
  | headOffline => exact takeHeadOffline_sound w hs
  | headRecover => exact takeHeadRecover_sound w hs
  | mask => exact takeMask_sound w hs
  | maskClear => exact takeMaskClear_sound w hs
  | drain => exact takeDrain_sound hs
  | clearTallies => exact takeClearTallies_sound hs
  | undrain | clearCapture | clearCounters => exact KeepsOrders.sound (s := s) (.of_eq rfl rfl rfl) hs

theorem controlWrite_commandBlock_sound (c : Command) (w : Word) (hs : OrdersSound s) :
    OrdersSound (controlWrite w (commandBlock c w) s) :=
  controlWrite_sound (fun _ => commandBlock_sound c w) w hs

theorem writeControl_sound (w : Word) (hs : OrdersSound s) : OrdersSound (writeControl w s) := by
  refine controlWrite_sound (fun t ht => ?_) w hs
  unfold controlAnswer
  cases controlCommand w with
  | some c => exact commandBlock_sound c w ht
  | none => exact ht

/-! ### Profile words (R22 to R25) -/

/-- With no live order, the pages may change: no static check is asked for. -/
theorem OrderBook.Sound.of_pages {b c : OrderBook} (hb : b.Sound) (hnone : ∀ h k, (b.order h k).state.live = false)
    (hpages : c = { b with zonePage := c.zonePage, socketPage := c.socketPage, headPage := c.headPage }) : c.Sound := by
  rw [hpages]
  exact ⟨fun h => ⟨(hb.inPlace h).atIndex, (hb.inPlace h).onDuty, (hb.inPlace h).faultedOnline⟩,
    fun h k => OrderBook.fits_of_not_live _ h (hnone h k)⟩

theorem storeEntry_sound (w : Word) (hs : OrdersSound s) (hm : s.mode = .setup) : OrdersSound (storeEntry w s) := by
  obtain ⟨hstill, hbook⟩ := (ordersSound_iff s).mp hs
  rw [ordersSound_iff]
  unfold storeEntry
  cases s.counter.page <;>
    exact ⟨fun _ => hstill hm, hbook.of_pages (hstill.not_live hm) rfl⟩

theorem recordAtCounter_moveCounter_keeps (code : ProfileCode) (s : State) :
    KeepsOrders s (moveCounter (recordAtCounter code s)) := .of_eq rfl rfl rfl

theorem writeDataWord_sound (w : Word) (hs : OrdersSound s) : OrdersSound (writeDataWord w s) := by
  have hw := (passWrite_keeps .controller profileDataAddr w s).sound hs
  unfold writeDataWord
  cases hm : s.mode with
  | run => exact ordersSound_of_run hm hs.book
  | setup =>
    dsimp only
    split_ifs
    · exact hw
    · exact (recordAtCounter_moveCounter_keeps _ _).sound (storeEntry_sound w hw hm)

theorem readDataWord_keeps (s : State) : KeepsOrders s (readDataWord s) := by
  unfold readDataWord
  cases s.counter.overrun <;> exact .of_eq rfl rfl rfl

end

/-! ### Socket commands (R107 to R113) -/

@[simp] theorem book_countDiscards (n : Nat) (s : State) : (countDiscards n s).book = s.book := rfl

/-- Every socket command, accepted, leaves the book. -/
theorem book_socketAnswer {c : SocketCommand} {i : SocketIx} {w : Word} {s t : State}
    (h : socketAnswer c i w s = .accepted t) : t.book = s.book := by
  cases c with
  | enable =>
    simp only [socketAnswer, enableSocket] at h
    split at h
    · split_ifs at h <;> cases h
      · rw [book_captureFault, book_commandPhase]
      · exact book_commandPhase i _ s
    · cases h
  | disable =>
    simp only [socketAnswer, disableSocket] at h
    split at h
    · split_ifs at h
      cases h
      exact book_commandPhase i _ s
    · cases h
  | start =>
    simp only [socketAnswer, startTest] at h
    split at h <;> cases h
    exact book_changePhase i _ s
  | result =>
    simp only [socketAnswer, giveResult] at h
    split at h
    · split at h <;> cases h
      exact book_changePhase i _ s
    · cases h
  | abort =>
    simp only [socketAnswer, abortTest] at h
    split at h <;> cases h
    exact book_changePhase i _ s
  | clearFault =>
    simp only [socketAnswer, clearSocketFault] at h
    split at h
    · split_ifs at h
      split at h <;> cases h
      · exact book_commandPhase i _ s
      · rw [book_commandPhase, book_countDiscards]
    · cases h

theorem recordSocketResult_keeps (i : SocketIx) (r : SocketResult) (s : State) :
    KeepsOrders s (recordSocketResult i r s) := setSocket_keeps id

section

variable {s : State}

theorem finishSocketCommand_sound (c : SocketCommand) (i : SocketIx) (w : Word) (hs : OrdersSound s)
    (hm : s.mode = .run) : OrdersSound (finishSocketCommand i s (socketAnswer c i w s)) := by
  cases h : socketAnswer c i w s with
  | accepted t =>
    have hbook : (recordSocketResult i .accepted t).book = s.book :=
      (recordSocketResult_keeps i .accepted t).book.trans (book_socketAnswer h)
    refine ordersSound_of_run ?_ ?_ <;> dsimp only [finishSocketCommand] <;> rw [hbook]
    · exact hm
    · exact hs.book
  | refused r => exact (recordSocketResult_keeps i r s).sound hs

theorem socketCommandWrite_sound (i : SocketIx) (w : Word) (hs : OrdersSound s) :
    OrdersSound (socketCommandWrite i w s) := by
  have hw := (passWrite_keeps .controller (socketCommandAddr i) w s).sound hs
  unfold socketCommandWrite
  cases socketWordCommand w with
  | none => exact (recordSocketResult_keeps i _ _).sound hw
  | some c =>
    dsimp only
    cases hm : (passWrite .controller (socketCommandAddr i) w s).mode with
    | setup => exact (recordSocketResult_keeps i _ _).sound hw
    | run => exact finishSocketCommand_sound c i w hw hm

/-! ### Ring words (R41 to R54) -/

theorem controllerProtect_keeps (h : HeadIx) (k : Option SlotIx) (s : State) :
    KeepsOrders s (controllerProtect h k s) :=
  KeepsOrders.trans (t := { s.grant .controller with controllerProtect := countUp s.controllerProtect })
    (.of_eq rfl rfl rfl) (captureFault_keeps _ _)

theorem driveProtect_keeps (h : HeadIx) (s : State) : KeepsOrders s (driveProtect h s) :=
  (grant_keeps (.drive h) s).trans ((setCounters_keeps h _ _).trans (captureFault_keeps _ _))

/-- A slot may come to FILLING in either mode. -/
theorem setOrder_filling_sound (hs : OrdersSound s) (h : HeadIx) (k : SlotIx) {o : Order} (ho : o.state = .filling) :
    OrdersSound (s.setOrder h k o) := by
  obtain ⟨hstill, hbook⟩ := (ordersSound_iff s).mp hs
  rw [ordersSound_iff, book_setOrder]
  refine ⟨fun hm => ?_, hbook.setOrder_of_not_live (ho ▸ rfl)⟩
  obtain ⟨horders, hrest⟩ := hstill hm
  refine ⟨fun g j => ?_, hrest⟩
  rw [State.order_setOrder]
  split_ifs
  · exact .inr ho
  · exact horders g j

theorem writeLeg_sound (h : HeadIx) (k : SlotIx) (j : Fin 7) (w : Word) (hs : OrdersSound s) :
    OrdersSound (writeLeg h k j w s) := by
  unfold writeLeg
  dsimp only
  split_ifs
  · exact (controllerProtect_keeps h _ s).sound hs
  · exact setOrder_filling_sound ((passWrite_keeps .controller _ w s).sound hs) h k rfl
  · exact setOrder_filling_sound ((passWrite_keeps .controller _ w s).sound hs) h k rfl

theorem sequenceError_keeps (h : HeadIx) (k : SlotIx) (s : State) : KeepsOrders s (sequenceError h k s) := by
  unfold sequenceError
  exact (setCounters_keeps h _ s).trans ((setCounters_keeps h _ _).trans (captureFault_keeps _ _))

/-- A post that passes the static checks comes to fit; one that fails is not live (R51). -/
theorem fits_posted (s : State) (h : HeadIx) {o : Order} (ho : o.completed = 0) :
    s.book.Fits h { o with state := postedState (postFailure s h o) } := by
  intro hlive
  have hpass : postFailure s h o = none := by
    cases hf : postFailure s h o with
    | none => rfl
    | some r => rw [hf] at hlive; cases hlive
  rw [hpass]
  refine ⟨?_, fun _ => ho, nofun⟩
  rw [← hpass, ← postFailure_book s]
  exact s.book.postFailure_of_legs h rfl

theorem active_postedState (r : Option Reason) : (postedState r).active = false := by
  cases r <;> rfl

theorem postOrder_sound (h : HeadIx) (k : SlotIx) (w : Word) (hs : OrdersSound s) (hm : s.mode = .run) :
    OrdersSound (postOrder h k w s) := by
  unfold postOrder
  dsimp only
  split_ifs
  · refine ordersSound_of_run hm ?_
    rw [book_setOrder]
    refine hs.book.setOrder (fits_posted s h (o := (s.order h k).offered w) rfl) fun ha => ?_
    rw [show OrderState.active _ = false from active_postedState _] at ha
    cases ha
  · have hbook := (sequenceError_keeps h k
      ((passWrite .controller (headerAddr h k) w s).setExpectedSeq h (headerSeq w + 1))).book
    refine ordersSound_of_run ?_ ?_ <;> rw [book_setOrder, hbook]
    · exact hm
    · exact hs.book.setOrder_of_not_live rfl

theorem withdrawOrder_sound (h : HeadIx) (k : SlotIx) (w : Word) (hs : OrdersSound s) (hm : s.mode = .run) :
    OrdersSound (withdrawOrder h k w s) := by
  have hw := passWrite_keeps .controller (headerAddr h k) w s
  have hleft : KeepsOrders s (if (s.order h k).state.held
      then stopHolding h (passWrite .controller (headerAddr h k) w s)
      else passWrite .controller (headerAddr h k) w s) := by
    split_ifs
    · exact hw.trans (stopHolding_keeps h _)
    · exact hw
  exact refuseOrder_sound (hleft.sound hs) ((congrArg OrderBook.mode hleft.book).trans hm) h k _ _

theorem retireOrder_sound (h : HeadIx) (k : SlotIx) (w : Word) (hs : OrdersSound s) (hm : s.mode = .run) :
    OrdersSound (retireOrder h k w s) := by
  refine ordersSound_of_run hm ?_
  rw [retireOrder, book_setOrder]
  exact hs.book.setOrder_of_not_live rfl

theorem headerWithoutPost_sound (h : HeadIx) (k : SlotIx) (w : Word) (hs : OrdersSound s) (hm : s.mode = .run) :
    OrdersSound (headerWithoutPost h k w s) := by
  unfold headerWithoutPost
  cases (s.order h k).state
  case cleared => exact (controllerProtect_keeps h _ s).sound hs
  case posted | socketWait | zoneWait => exact withdrawOrder_sound h k w hs hm
  case done | refused | aborted => exact retireOrder_sound h k w hs hm
  case free | filling => exact (passWrite_keeps .controller _ w s).sound hs

theorem headerWithPost_sound (h : HeadIx) (k : SlotIx) (w : Word) (hs : OrdersSound s) (hm : s.mode = .run) :
    OrdersSound (headerWithPost h k w s) := by
  unfold headerWithPost
  split_ifs
  · exact (controllerProtect_keeps h _ s).sound hs
  · exact postOrder_sound h k w hs hm

theorem writeHeader_sound (h : HeadIx) (k : SlotIx) (w : Word) (hs : OrdersSound s) :
    OrdersSound (writeHeader h k w s) := by
  unfold writeHeader
  cases hm : s.mode with
  | setup => exact (passWrite_keeps .controller _ w s).sound hs
  | run =>
    dsimp only
    split_ifs
    · exact headerWithPost_sound h k w hs hm
    · exact headerWithoutPost_sound h k w hs hm

/-! ### Every write by the map (R4) -/

theorem writePageWord_keeps (w : Word) (s : State) : KeepsOrders s (writePageWord w s) := .of_eq rfl rfl rfl

theorem writeAddressWord_keeps (w : Word) (s : State) : KeepsOrders s (writeAddressWord w s) := .of_eq rfl rfl rfl

theorem controllerWrite_sound (a : Addr) (w : Word) (hs : OrdersSound s) : OrdersSound (controllerWrite a w s) := by
  unfold controllerWrite
  cases regionOf a with
  | control => exact writeControl_sound w hs
  | profilePage => exact (writePageWord_keeps w s).sound hs
  | profileAddress => exact (writeAddressWord_keeps w s).sound hs
  | profileData => exact writeDataWord_sound w hs
  | socketCommand i => exact socketCommandWrite_sound i w hs
  | report h => exact (controllerProtect_keeps h none s).sound hs
  | header h k => exact writeHeader_sound h k w hs
  | leg h k j => exact writeLeg_sound h k j w hs
  | profileResult | status | socketState | socketUnit | socketNote | disposition | unassigned | plain =>
    exact (passWrite_keeps .controller a.toNat w s).sound hs

theorem driveWrite_sound (h : HeadIx) (a : Addr) (w : Word) (hs : OrdersSound s) :
    OrdersSound (driveWrite h a w s) := by
  unfold driveWrite
  split_ifs
  · exact (driveProtect_keeps h s).sound hs
  · split
    · exact writeReport_sound h w hs
    · exact (passWrite_keeps (.drive h) a.toNat w s).sound hs

theorem busWrite_sound (src : Source) (a : Addr) (w : Word) (hs : OrdersSound s) :
    OrdersSound (busWrite src a w s) := by
  cases src with
  | controller => exact controllerWrite_sound a w hs
  | drive h => exact driveWrite_sound h a w hs

/-! ### Every command, and every step -/

theorem powerOn_sound (s : State) : OrdersSound (powerOn s) :=
  KeepsOrders.sound (s := State.reset) (.of_eq rfl rfl rfl) reset_ordersSound

/-- Every command keeps the orders sound. -/
theorem exec_sound (c : Instr) (hs : OrdersSound s) : ∃ t, exec c s = .next t ∧ OrdersSound t := by
  cases c
  case powerOnReset => exact ⟨_, rfl, powerOn_sound s⟩
  case tick p g => exact ⟨_, rfl, (sampleTick_keeps p g _).sound (settleFor_sound 128 hs)⟩
  case filteredLevelChange l => exact ⟨_, rfl, takeEvent_sound (.level l) hs⟩
  case holdTimerExpiry h => exact ⟨_, rfl, takeEvent_sound (.hold h) hs⟩
  case seatWindowExpiry i => exact ⟨_, rfl, takeEvent_sound (.seat i) hs⟩
  case vacateWindowExpiry i => exact ⟨_, rfl, takeEvent_sound (.vacate i) hs⟩
  case disturbanceTimerExpiry l => exact ⟨_, rfl, takeEvent_sound (.disturb l) hs⟩
  case recoverCountdownExpiry l => exact ⟨_, rfl, takeEvent_sound (.recover l) hs⟩
  case modeRun b => exact ⟨_, rfl, controlWrite_commandBlock_sound .modeRun _ hs⟩
  case modeSetup b => exact ⟨_, rfl, controlWrite_commandBlock_sound .modeSetup _ hs⟩
  case deckReset b => exact ⟨_, rfl, controlWrite_commandBlock_sound .deckReset _ hs⟩
  case headOnline b => exact ⟨_, rfl, controlWrite_commandBlock_sound .headOnline _ hs⟩
  case headOffline b => exact ⟨_, rfl, controlWrite_commandBlock_sound .headOffline _ hs⟩
  case headRecover b => exact ⟨_, rfl, controlWrite_commandBlock_sound .headRecover _ hs⟩
  case mask b => exact ⟨_, rfl, controlWrite_commandBlock_sound .mask _ hs⟩
  case maskClear b => exact ⟨_, rfl, controlWrite_commandBlock_sound .maskClear _ hs⟩
  case drain b => exact ⟨_, rfl, controlWrite_commandBlock_sound .drain _ hs⟩
  case undrain b => exact ⟨_, rfl, controlWrite_commandBlock_sound .undrain _ hs⟩
  case clearTallies b => exact ⟨_, rfl, controlWrite_commandBlock_sound .clearTallies _ hs⟩
  case clearCapture b => exact ⟨_, rfl, controlWrite_commandBlock_sound .clearCapture _ hs⟩
  case clearCounters b => exact ⟨_, rfl, controlWrite_commandBlock_sound .clearCounters _ hs⟩
  case badCommand w => exact ⟨_, rfl, writeControl_sound w hs⟩
  case profilePageWrite w => exact ⟨_, rfl, (writePageWord_keeps w s).sound hs⟩
  case profileAddressWrite w => exact ⟨_, rfl, (writeAddressWord_keeps w s).sound hs⟩
  case profileDataWrite w => exact ⟨_, rfl, writeDataWord_sound w hs⟩
  case profileDataRead => exact ⟨_, rfl, (readDataWord_keeps s).sound hs⟩
  case statusWord0Read => exact ⟨_, rfl, KeepsOrders.sound (s := s) (.of_eq rfl rfl rfl) hs⟩
  case enable i _ | disable i _ | start i _ | result i _ | abort i _ | clearFault i _ | socketBadCommand i _ =>
    exact ⟨_, rfl, socketCommandWrite_sound i _ hs⟩
  case legWrite h k j w => exact ⟨_, rfl, writeLeg_sound h k j w hs⟩
  case post h k _ | withdraw h k _ | retire h k _ | headerWriteSuppressed h k _ =>
    exact ⟨_, rfl, writeHeader_sound h k _ hs⟩
  case fetch h k => exact ⟨_, rfl, fetchHeader_sound h k hs⟩
  case legDone h _ | legFailed h _ | malformedReport h _ => exact ⟨_, rfl, writeReport_sound h _ hs⟩
  case driveProtect h a w => exact ⟨_, rfl, driveWrite_sound h a w hs⟩
  case controllerReportWrite h w => exact ⟨_, rfl, (controllerProtect_keeps h none s).sound hs⟩
  case passedWrite src a w => exact ⟨_, rfl, busWrite_sound src a w hs⟩

end

/-- Settles O49: a port clock and every command keep the orders sound. -/
theorem ordersStaySound : Obligations.OrdersStaySound := by
  unfold Obligations.OrdersStaySound
  intro s t hs hstep
  unfold step at hstep
  split at hstep
  next =>
    cases hstep
    exact portClock_sound hs
  next c rest _ =>
    have hrest : OrdersSound { s with pending := rest } := KeepsOrders.sound (s := s) (.of_eq rfl rfl rfl) hs
    obtain ⟨u, hu, hsound⟩ := exec_sound c hrest
    rw [hu] at hstep
    cases hstep
    exact hsound

end Sys2Proof.Machine

/-! The profile words and the operating mode: the counter, the entries that the data word reads and writes, the checks
of MODE RUN, and the two mode commands. -/

namespace Sys2Proof.Machine

/-! ### The page/address counter (R22, R23, R26) -/

theorem pageOfWord_number (w : Word) : (pageOfWord w).number = w.extractLsb' 0 2 := by
  have hlt := (w.extractLsb' 0 2).isLt
  unfold pageOfWord
  split
  next hp => exact BitVec.eq_of_toNat_eq hp.symm
  next hp => exact BitVec.eq_of_toNat_eq hp.symm
  next hp => exact BitVec.eq_of_toNat_eq hp.symm
  next h0 h1 h2 =>
    rw [imp_false] at h0 h1 h2
    have hp : (w.extractLsb' 0 2).toNat = 3 := by omega
    exact BitVec.eq_of_toNat_eq hp.symm

theorem Counter.move_up {c : Counter} (hup : c.down = false) (he : c.entry.val < c.page.last) :
    c.move = { c with entry := Fin.ofNat 16 (c.entry.val + 1) } := by
  simp only [Counter.move, hup, Bool.false_eq_true, if_false, if_neg (Nat.not_le.mpr he)]

theorem Counter.move_up_at_last {c : Counter} (hup : c.down = false) (he : c.entry.val = c.page.last) :
    c.move = { c with overrun := true } := by
  simp only [Counter.move, hup, Bool.false_eq_true, if_false, if_pos (Nat.le_of_eq he.symm)]

theorem Counter.move_down {c : Counter} (hdown : c.down = true) (he : 0 < c.entry.val) :
    c.move = { c with entry := Fin.ofNat 16 (c.entry.val - 1) } := by
  simp only [Counter.move, hdown, if_true, if_neg (Nat.ne_of_gt he)]

theorem Counter.move_down_at_zero {c : Counter} (hdown : c.down = true) (he : c.entry.val = 0) :
    c.move = { c with overrun := true } := by
  simp only [Counter.move, hdown, if_true, if_pos he]

theorem addressCounter_eq (c : Counter) {w : Word} {e : Fin 16} (he : e.val = (w.extractLsb' 0 4).toNat) :
    addressCounter c w =
      if e.val ≤ c.page.last then { page := c.page, entry := e, down := w.getLsbD 31, overrun := false }
      else { page := c.page, entry := Fin.ofNat 16 c.page.last, down := w.getLsbD 31, overrun := true } := by
  have hentry : addressEntry w = e := Fin.ext he.symm
  unfold addressCounter
  rw [hentry]
  rfl

/-- Settles O11: the page word's low two bits name the page, the address word is taken by R23's table, and a move is one
of four cases. -/
theorem counterFollowsItsWords : Obligations.CounterFollowsItsWords := by
  unfold Obligations.CounterFollowsItsWords
  refine ⟨fun w s => ⟨pageOfWord w, pageOfWord_number w, rfl⟩, fun w s e he => ?_, fun c _ => ?_⟩
  · rw [← addressCounter_eq s.counter he]
    rfl
  · exact ⟨Counter.move_up, Counter.move_up_at_last, Counter.move_down, Counter.move_down_at_zero⟩

/-! ### The data word (R24, R25) -/

/-- Settles O13: a controller read goes by OVERRUN; a drive's read of the word passes. -/
theorem dataReadReturnsEntry : Obligations.DataReadReturnsEntry := by
  unfold Obligations.DataReadReturnsEntry
  intro s
  refine ⟨fun hover => ?_, fun hover => ?_, fun h => driveRead_passes s h (.inl (by decide))⟩
  · show Host.Outcome.next (readDataWord s) = _
    rw [readDataWord, hover]
    rfl
  · show Host.Outcome.next (readDataWord s) = _
    rw [readDataWord, hover]
    rfl

/-- The bits of n at place lo. -/
def placeMask (lo n : Nat) : Word := field lo (BitVec.allOnes n)

/-- A field read from a word and put back at its place is the word masked to that place. -/
theorem field_extractLsb' (w : Word) (lo n : Nat) : field lo (w.extractLsb' lo n) = w &&& placeMask lo n := by
  refine BitVec.eq_of_getLsbD_eq fun i hi => ?_
  rw [BitVec.getLsbD_and, placeMask, getLsbD_field, getLsbD_field, BitVec.getLsbD_extractLsb', BitVec.getLsbD_allOnes]
  by_cases hlo : lo ≤ i
  · simp [hi, hlo, Bool.and_comm]
  · simp [hlo]

theorem flag_bitAt (w : Word) (i : Nat) : flag i (bitAt w i) = w &&& placeMask i 1 := by
  have hbit : BitVec.ofBool (bitAt w i) = w.extractLsb' i 1 := by
    refine BitVec.eq_of_getLsbD_eq fun j hj => ?_
    obtain rfl : j = 0 := by omega
    simp [bitAt]
  rw [flag, hbit, field_extractLsb']

theorem fieldNat_toFin (w : Word) (lo : Nat) :
    fieldNat lo 4 ((w.extractLsb' lo 4).toFin : Fin 16).val = w &&& placeMask lo 4 := by
  rw [← field_extractLsb', fieldNat]
  congr 1
  exact BitVec.ofNat_toNat _ _

theorem zoneEntryWord_zoneEntryOfWord (w : Word) : zoneEntryWord (zoneEntryOfWord w) = w &&& 0xE0FFFFFF := by
  simp only [zoneEntryWord, zoneEntryOfWord, field_extractLsb', ← BitVec.and_or_distrib_left]
  rfl

theorem socketEntryWord_socketEntryOfWord (w : Word) : socketEntryWord (socketEntryOfWord w) = w &&& 0x8000000F := by
  simp only [socketEntryWord, socketEntryOfWord, flag_bitAt, fieldNat_toFin, ← BitVec.and_or_distrib_left]
  rfl

theorem headEntryWord_headEntryOfWord (w : Word) : headEntryWord (headEntryOfWord w) = w &&& 0xC03FFFFF := by
  simp only [headEntryWord, headEntryOfWord, flag_bitAt, field_extractLsb', ← BitVec.and_or_distrib_left]
  rfl

/-- The entry of the LIMITS page that is written. -/
theorem limitsEntryWord_limitsWithEntry_same (m : Limits) {e : Nat} (he : e ≤ Page.limits.last) (w : Word) :
    limitsEntryWord (limitsWithEntry m e w) e = w &&& fieldMask .limits e := by
  have hcase : e = 0 ∨ e = 1 ∨ e = 2 ∨ e = 3 ∨ e = 4 ∨ e = 5 ∨ e = 6 ∨ e = 7 := by
    change e ≤ 7 at he
    omega
  rcases hcase with rfl | rfl | rfl | rfl | rfl | rfl | rfl | rfl <;>
    simp only [limitsWithEntry, limitsEntryWord, flag_bitAt, field_extractLsb', ← BitVec.and_or_distrib_left] <;> rfl

/-- The entries of the LIMITS page that are not written. -/
theorem limitsEntryWord_limitsWithEntry_other (m : Limits) {d e : Nat} (hne : d ≠ e) (w : Word) :
    limitsEntryWord (limitsWithEntry m e w) d = limitsEntryWord m d := by
  unfold limitsWithEntry
  split <;> unfold limitsEntryWord <;> split <;> first | rfl | exact absurd rfl hne


/-- The entry at the counter reads as the word stored into it, masked to the entry's fields (R16). -/
theorem profileEntryWord_storeEntry_same (w : Word) {s : State} (he : s.counter.entry.val ≤ s.counter.page.last) :
    profileEntryWord (storeEntry w s) s.counter.page s.counter.entry =
      w &&& fieldMask s.counter.page s.counter.entry.val := by
  unfold storeEntry
  cases hp : s.counter.page with
  | zone =>
    simp only [profileEntryWord, getElem_set_fin, if_true]
    exact zoneEntryWord_zoneEntryOfWord w
  | socket =>
    simp only [profileEntryWord, getElem_set_fin, if_true]
    exact socketEntryWord_socketEntryOfWord w
  | head =>
    simp only [profileEntryWord, getElem_set_fin, if_true]
    exact headEntryWord_headEntryOfWord w
  | limits =>
    rw [hp] at he
    exact limitsEntryWord_limitsWithEntry_same s.limits he w

/-- Every other entry of every page reads as before (R24). -/
theorem profileEntryWord_storeEntry_other (w : Word) {s : State} (he : s.counter.entry.val ≤ s.counter.page.last)
    {p : Page} {e : Fin 16} (hlast : e.val ≤ p.last) (hne : ¬ (p = s.counter.page ∧ e = s.counter.entry)) :
    profileEntryWord (storeEntry w s) p e = profileEntryWord s p e := by
  unfold storeEntry
  cases hp : s.counter.page with
  | zone =>
    cases p with
    | zone =>
      have hentry : e ≠ s.counter.entry := fun h => hne ⟨hp.symm, h⟩
      simp only [profileEntryWord, getElem_set_fin, if_neg hentry]
    | socket | head | limits => rfl
  | socket =>
    cases p with
    | socket =>
      have hentry : e ≠ s.counter.entry := fun h => hne ⟨hp.symm, h⟩
      simp only [profileEntryWord, getElem_set_fin, if_neg hentry]
    | zone | head | limits => rfl
  | head =>
    cases p with
    | head =>
      rw [hp] at he
      change e.val ≤ 3 at hlast
      change s.counter.entry.val ≤ 3 at he
      have hentry : Fin.ofNat 4 e.val ≠ Fin.ofNat 4 s.counter.entry.val := by
        intro h
        have hval : e.val % 4 = s.counter.entry.val % 4 := congrArg Fin.val h
        exact hne ⟨hp.symm, Fin.ext (by omega)⟩
      simp only [profileEntryWord, getElem_set_fin, if_neg hentry]
    | zone | socket | limits => rfl
  | limits =>
    cases p with
    | limits =>
      have hentry : e.val ≠ s.counter.entry.val := fun h => hne ⟨hp.symm, Fin.ext h⟩
      exact limitsEntryWord_limitsWithEntry_other s.limits hentry w
    | zone | socket | head => rfl

/-- A store changes the profile pages only. -/
theorem storeEntry_eq (w : Word) (s : State) : storeEntry w s =
    { s with
      zonePage := (storeEntry w s).zonePage, socketPage := (storeEntry w s).socketPage
      headPage := (storeEntry w s).headPage, limits := (storeEntry w s).limits } := by
  unfold storeEntry
  cases s.counter.page <;> rfl

theorem countUp_eq_oneMore (c : BitVec 8) : countUp c = oneMore c := by
  unfold countUp oneMore Config.counterTop
  split_ifs with hc
  · exact hc
  · rfl

theorem writeDataWord_run {s : State} (hm : s.mode = .run) (w : Word) : writeDataWord w s =
    { recordAtCounter .mode (written s profileDataAddr w) with profileRefused := countUp s.profileRefused } := by
  unfold writeDataWord
  rw [hm]
  rfl

theorem writeDataWord_overrun {s : State} (hm : s.mode = .setup) (hover : s.counter.overrun = true) (w : Word) :
    writeDataWord w s = written s profileDataAddr w := by
  unfold writeDataWord
  rw [hm, hover]
  rfl

theorem writeDataWord_stores {s : State} (hm : s.mode = .setup) (hover : s.counter.overrun = false) (w : Word) :
    writeDataWord w s = moveCounter (recordAtCounter .accepted (storeEntry w (written s profileDataAddr w))) := by
  unfold writeDataWord
  rw [hm, hover]
  rfl

/-- Settles O12: in RUN the write is refused and counted; in SETUP it is ignored under OVERRUN and stored otherwise. -/
theorem dataWriteStoresEntry : Obligations.DataWriteStoresEntry := by
  unfold Obligations.DataWriteStoresEntry
  intro w s
  refine ⟨fun hm => ?_, fun hm hover => ?_, fun hm hover he => ?_⟩
  · rw [← countUp_eq_oneMore]
    exact congrArg Host.Outcome.next (writeDataWord_run hm w)
  · exact congrArg Host.Outcome.next (writeDataWord_overrun hm hover w)
  · refine ⟨_, congrArg Host.Outcome.next (writeDataWord_stores hm hover w), ?_, ?_, fun p e hlast hne => ?_⟩
    · rw [storeEntry_eq]
      rfl
    · exact profileEntryWord_storeEntry_same (s := written s profileDataAddr w) w he
    · exact profileEntryWord_storeEntry_other (s := written s profileDataAddr w) w he hlast hne

/-! ### The checks of MODE RUN (R30) -/

/-- Of the checks numbered lo to below hi, r reports the first that fails, at its lowest failing entry; or r reports
none and none of them fails. -/
def ReportsFirst (s : State) (lo hi : Nat) : Option FailedCheck → Prop
  | none => ∀ n e, lo ≤ n → n < hi → ¬ CheckFails s n e
  | some f =>
    CheckFails s f.check.toNat f.entry ∧ f.page = checkPage f.check.toNat ∧ lo ≤ f.check.toNat ∧ f.check.toNat < hi ∧
      ∀ n e, lo ≤ n → n < hi → CheckFails s n e → f.check.toNat < n ∨ (n = f.check.toNat ∧ f.entry ≤ e)

theorem reportsFirst_nil (s : State) (n : Nat) : ReportsFirst s n n (List.findSome? id []) :=
  fun _ _ hlo hhi => absurd hhi (Nat.not_lt.mpr hlo)

/-- A check in front of the checks after it. -/
theorem reportsFirst_cons {s : State} {n hi : Nat} {r : Option FailedCheck} {l : List (Option FailedCheck)}
    (hr : ReportsFirst s n (n + 1) r) (hl : ReportsFirst s (n + 1) hi (l.findSome? id)) (hn : n < hi) :
    ReportsFirst s n hi ((r :: l).findSome? id) := by
  cases r with
  | some f =>
    obtain ⟨hfails, hpage, hlo, hhi, hfirst⟩ := hr
    refine ⟨hfails, hpage, hlo, by omega, fun m e hm _ hme => ?_⟩
    rcases Nat.lt_or_ge m (n + 1) with hlt | hge
    · exact hfirst m e hm hlt hme
    · exact .inl (by omega)
  | none =>
    show ReportsFirst s n hi (l.findSome? id)
    cases hrest : l.findSome? id with
    | none =>
      rw [hrest] at hl
      intro m e hm hmhi
      rcases Nat.lt_or_ge m (n + 1) with hlt | hge
      · exact hr m e hm hlt
      · exact hl m e hge hmhi
    | some f =>
      rw [hrest] at hl
      obtain ⟨hfails, hpage, hlo, hhi, hfirst⟩ := hl
      refine ⟨hfails, hpage, by omega, hhi, fun m e hm hmhi hme => ?_⟩
      rcases Nat.lt_or_ge m (n + 1) with hlt | hge
      · exact absurd hme (hr m e hm hlt)
      · exact hfirst m e hge hmhi hme

/-- One check reports its lowest failing entry, if the entries it looks at are in ascending order and it fails just
where R30 says. -/
theorem firstFailing_reportsFirst {s : State} {n : Nat} {check : BitVec 8} {page : Page} {entries : List (Fin 16)}
    {passes : Fin 16 → Bool} (hn : check.toNat = n) (hpage : page = checkPage n) (hsorted : entries.Pairwise (· < ·))
    (hfails : ∀ e, CheckFails s n e ↔ e ∈ entries ∧ passes e = false) :
    ReportsFirst s n (n + 1) (firstFailing check page entries passes) := by
  subst hn
  unfold firstFailing
  cases hfind : entries.find? (fun e => !passes e) with
  | none =>
    intro n e hlo hhi hfail
    obtain rfl : n = check.toNat := by omega
    obtain ⟨hmem, hpass⟩ := (hfails e).mp hfail
    exact absurd (List.find?_eq_none.mp hfind e hmem) (by simp [hpass])
  | some e =>
    obtain ⟨hpass, before, after, hsplit, hbefore⟩ := List.find?_eq_some_iff_append.mp hfind
    have hmem : e ∈ entries := hsplit ▸ List.mem_append_right _ (.head _)
    refine ⟨(hfails e).mpr ⟨hmem, by simpa using hpass⟩, hpage, Nat.le_refl _, Nat.lt_succ_self _, ?_⟩
    intro n d hlo hhi hfail
    obtain rfl : n = check.toNat := by omega
    obtain ⟨hd, hdpass⟩ := (hfails d).mp hfail
    refine .inr ⟨rfl, ?_⟩
    rw [hsplit, List.mem_append, List.mem_cons] at hd
    obtain hd | rfl | hd := hd
    · simpa [hdpass] using hbefore d hd
    · exact le_refl _
    · rw [hsplit, List.pairwise_append] at hsorted
      exact le_of_lt (List.rel_of_pairwise_cons hsorted.2.1 hd)

/-! #### What the zone types name (R17) -/

theorem zoneType_eq_none_iff (c : BitVec 3) : zoneTypeOfCode c = none ↔ 5 < c.toNat := by
  revert c; decide

theorem zoneType_eq_unused_iff (c : BitVec 3) : zoneTypeOfCode c = some .unused ↔ c = 0 := by
  revert c; decide

theorem zoneType_eq_site_iff (c : BitVec 3) : zoneTypeOfCode c = some .site ↔ c = 4 := by
  revert c; decide

theorem zoneType_eq_bin_iff (c : BitVec 3) : zoneTypeOfCode c = some .bin ↔ c = 5 := by
  revert c; decide

theorem mem_all16 (e : Fin 16) : e ∈ all16 := by
  revert e; decide

theorem mem_headEntries (e : Fin 16) : e ∈ headEntries ↔ e.val < 4 := by
  revert e; decide

theorem mem_classEntries (e : Fin 16) : e ∈ classEntries ↔ e.val < 8 := by
  revert e; decide

theorem all16_sorted : all16.Pairwise (· < ·) := by decide

theorem headEntries_sorted : headEntries.Pairwise (· < ·) := by decide

theorem classEntries_sorted : classEntries.Pairwise (· < ·) := by decide

/-- The entries of the HEAD page are those of the four heads. -/
theorem headEntry_exists_iff (s : State) (e : Fin 16) (p : HeadEntry → Prop) :
    (∃ h : HeadIx, h.val = e.val ∧ p s.headPage[h]) ↔ e ∈ headEntries ∧ p (headEntryAt s e) := by
  rw [mem_headEntries]
  constructor
  · rintro ⟨h, he, hp⟩
    have hentry : headEntryAt s e = s.headPage[h] := by
      simp only [headEntryAt, show Fin.ofNat 4 e.val = h from Fin.ext (by simp [← he])]
    exact ⟨he ▸ h.isLt, hentry ▸ hp⟩
  · rintro ⟨he, hp⟩
    exact ⟨Fin.ofNat 4 e.val, Nat.mod_eq_of_lt he, hp⟩

theorem limitIn_eq_false_iff (lo hi v : Nat) : limitIn lo hi v = false ↔ v < lo ∨ hi < v := by
  unfold limitIn
  rw [Bool.and_eq_false_iff, decide_eq_false_iff_not, decide_eq_false_iff_not, Nat.not_le, Nat.not_le]

/-! #### Each check fails where R30's table says -/

section

variable (s : State) (e : Fin 16)

theorem zoneTypeCheck_iff : CheckFails s 1 e ↔ e ∈ all16 ∧ (s.zoneType e).isSome = false := by
  show 5 < s.zonePage[e].type.toNat ↔ _
  simp [mem_all16, State.zoneType, zoneType_eq_none_iff]

theorem unusedZoneCheck_iff :
    CheckFails s 2 e ↔ e ∈ all16 ∧ (s.zoneType e != some .unused || s.zonePage[e].neighbours == 0) = false := by
  show s.zonePage[e].type = 0 ∧ s.zonePage[e].neighbours ≠ 0 ↔ _
  simp [mem_all16, State.zoneType, zoneType_eq_unused_iff]

theorem selfNeighbourCheck_iff : CheckFails s 3 e ↔ e ∈ all16 ∧ (!s.adjacent e e) = false := by
  show s.zonePage[e].neighbours.getLsbD e = true ↔ _
  simp [mem_all16, State.adjacent, hasBit]

theorem neighbourSymmetryCheck_iff :
    CheckFails s 4 e ↔ e ∈ all16 ∧ all16.all (fun y => !s.adjacent e y || s.adjacent y e) = false := by
  show (∃ y : Fin 16, s.zonePage[e].neighbours.getLsbD y = true ∧ s.zonePage[y].neighbours.getLsbD e = false) ↔ _
  simp [mem_all16, State.adjacent, hasBit]

theorem socketSiteCheck_iff :
    CheckFails s 5 e ↔ e ∈ all16 ∧ (s.zoneType s.socketPage[e].zone == some .site) = false := by
  show s.zonePage[s.socketPage[e].zone].type ≠ 4 ↔ _
  simp [mem_all16, State.zoneType, zoneType_eq_site_iff]

theorem socketsInZone_eq : socketsInZone s e = (all16.filter (fun i => s.socketPage[i].zone = e)).length :=
  List.countP_eq_length_filter

theorem siteSocketsCheck_iff :
    CheckFails s 6 e ↔ e ∈ all16 ∧ (s.zoneType e != some .site || limitIn 1 4 (socketsInZone s e)) = false := by
  show s.zonePage[e].type = 4 ∧ ¬ (1 ≤ (all16.filter (fun i => s.socketPage[i].zone = e)).length ∧
    (all16.filter (fun i => s.socketPage[i].zone = e)).length ≤ 4) ↔ _
  rw [← socketsInZone_eq, Bool.or_eq_false_iff, limitIn_eq_false_iff, not_and_or, Nat.not_le, Nat.not_le]
  simp [mem_all16, State.zoneType, zoneType_eq_site_iff]

theorem classBinCheck_iff : CheckFails s 7 e ↔ e ∈ classEntries ∧ classHasBin s e.val = false := by
  show (e.val < 8 ∧ ∀ z : Fin 16, s.zonePage[z].type = 5 → s.zonePage[z].classes.getLsbD e = false) ↔ _
  simp [mem_classEntries, mem_all16, State.zoneType, zoneType_eq_bin_iff, classHasBin, hasBit]

theorem headPresentCheck_iff :
    CheckFails s 8 e ↔ e ∈ [0] ∧ allHeads.any (fun h => s.headPage[h].present) = false := by
  have heads : ∀ h : HeadIx, h ∈ allHeads := by decide
  show (e = 0 ∧ ∀ h : HeadIx, s.headPage[h].present = false) ↔ _
  simp [heads]

theorem headReachCheck_iff :
    CheckFails s 9 e ↔ e ∈ headEntries ∧ (!(headEntryAt s e).present || (headEntryAt s e).reach != 0) = false := by
  refine (headEntry_exists_iff s e (fun x => x.present = true ∧ x.reach = 0)).trans ?_
  simp

theorem headReachUsedCheck_iff :
    CheckFails s 10 e ↔ e ∈ headEntries ∧ (!(headEntryAt s e).present ||
      all16.all (fun z => !hasBit (headEntryAt s e).reach z.val || s.zoneType z != some .unused)) = false := by
  refine (headEntry_exists_iff s e
    (fun x => x.present = true ∧ ∃ z : Fin 16, x.reach.getLsbD z = true ∧ s.zonePage[z].type = 0)).trans ?_
  simp [mem_all16, State.zoneType, zoneType_eq_unused_iff, hasBit]

/-- A limit whose field cannot exceed its upper bound fails only where it is too low. -/
theorem lowLimit_iff {n lo hi : Nat} (k : Fin 16) (v : BitVec n) (hhi : 2 ^ n ≤ hi + 1) :
    e = k ∧ v.toNat < lo ↔ e ∈ [k] ∧ limitIn lo hi v.toNat = false := by
  have hv := v.isLt
  rw [List.mem_singleton, limitIn_eq_false_iff]
  exact and_congr_right fun _ => ⟨.inl, fun h => h.resolve_right (by omega)⟩

/-- A limit of at least 1 fails only where it is 0. -/
theorem zeroLimit_iff {n hi : Nat} (k : Fin 16) (v : BitVec n) (hhi : 2 ^ n ≤ hi + 1) :
    e = k ∧ v = 0 ↔ e ∈ [k] ∧ limitIn 1 hi v.toNat = false := by
  rw [← lowLimit_iff e k v hhi, Nat.lt_one_iff]
  exact and_congr_right fun _ => BitVec.toNat_inj.symm

theorem overflowClassCheck_iff :
    CheckFails s 17 e ↔ e ∈ [6] ∧ limitIn 0 7 s.limits.overflowClass.toNat = false := by
  show e = 6 ∧ 7 < s.limits.overflowClass.toNat ↔ _
  rw [List.mem_singleton, limitIn_eq_false_iff]
  exact and_congr_right fun _ => ⟨.inr, fun h => h.resolve_left (Nat.not_lt_zero _)⟩

end

/-! #### The seventeen checks in order -/

section

variable (s : State)

theorem limitChecks_reportFirst : ReportsFirst s 11 18 ((limitChecks s.limits).findSome? id) := by
  have hsingle : ∀ k : Fin 16, [k].Pairwise (· < ·) := List.pairwise_singleton _
  refine reportsFirst_cons (firstFailing_reportsFirst rfl rfl (hsingle 0) fun e => ?_) ?_ (by decide)
  · exact lowLimit_iff e 0 s.limits.divisor (by decide)
  refine reportsFirst_cons (firstFailing_reportsFirst rfl rfl (hsingle 1) fun e => ?_) ?_ (by decide)
  · exact zeroLimit_iff e 1 s.limits.debounce (by decide)
  refine reportsFirst_cons (firstFailing_reportsFirst rfl rfl (hsingle 2) fun e => ?_) ?_ (by decide)
  · exact zeroLimit_iff e 2 s.limits.seatWindow (by decide)
  refine reportsFirst_cons (firstFailing_reportsFirst rfl rfl (hsingle 3) fun e => ?_) ?_ (by decide)
  · exact zeroLimit_iff e 3 s.limits.disturb (by decide)
  refine reportsFirst_cons (firstFailing_reportsFirst rfl rfl (hsingle 4) fun e => ?_) ?_ (by decide)
  · exact zeroLimit_iff e 4 s.limits.recover (by decide)
  refine reportsFirst_cons (firstFailing_reportsFirst rfl rfl (hsingle 6) fun e => ?_) ?_ (by decide)
  · exact zeroLimit_iff e 6 s.limits.retest (by decide)
  exact reportsFirst_cons (firstFailing_reportsFirst rfl rfl (hsingle 6) (overflowClassCheck_iff s))
    (reportsFirst_nil s 18) (by decide)

theorem profileFailure_reportsFirst : ReportsFirst s 1 18 (profileFailure s) := by
  refine reportsFirst_cons (firstFailing_reportsFirst rfl rfl all16_sorted (zoneTypeCheck_iff s)) ?_ (by decide)
  refine reportsFirst_cons (firstFailing_reportsFirst rfl rfl all16_sorted (unusedZoneCheck_iff s)) ?_ (by decide)
  refine reportsFirst_cons (firstFailing_reportsFirst rfl rfl all16_sorted (selfNeighbourCheck_iff s)) ?_ (by decide)
  refine reportsFirst_cons (firstFailing_reportsFirst rfl rfl all16_sorted (neighbourSymmetryCheck_iff s)) ?_
    (by decide)
  refine reportsFirst_cons (firstFailing_reportsFirst rfl rfl all16_sorted (socketSiteCheck_iff s)) ?_ (by decide)
  refine reportsFirst_cons (firstFailing_reportsFirst rfl rfl all16_sorted (siteSocketsCheck_iff s)) ?_ (by decide)
  refine reportsFirst_cons (firstFailing_reportsFirst rfl rfl classEntries_sorted (classBinCheck_iff s)) ?_ (by decide)
  refine reportsFirst_cons (firstFailing_reportsFirst rfl rfl (List.pairwise_singleton _ 0) (headPresentCheck_iff s)) ?_
    (by decide)
  refine reportsFirst_cons (firstFailing_reportsFirst rfl rfl headEntries_sorted (headReachCheck_iff s)) ?_ (by decide)
  refine reportsFirst_cons (firstFailing_reportsFirst rfl rfl headEntries_sorted (headReachUsedCheck_iff s)) ?_
    (by decide)
  exact limitChecks_reportFirst s

/-- There are no checks but the seventeen. -/
theorem checkFails_number {n : Nat} {e : Fin 16} (h : CheckFails s n e) : 1 ≤ n ∧ n < 18 := by
  rcases Nat.eq_zero_or_pos n with rfl | hlo
  · exact h.elim
  · refine ⟨hlo, Nat.lt_of_not_le fun hge => ?_⟩
    obtain ⟨k, rfl⟩ := Nat.exists_eq_add_of_le' hge
    exact h

end

/-- Settles O10: the seventeen checks, each failing where R30's table says, are searched in order of number and
entry. -/
theorem firstFailingCheckReported : Obligations.FirstFailingCheckReported := by
  unfold Obligations.FirstFailingCheckReported
  intro s
  have hreports := profileFailure_reportsFirst s
  cases hfail : profileFailure s with
  | none =>
    rw [hfail] at hreports
    intro n e hne
    obtain ⟨hlo, hhi⟩ := checkFails_number s hne
    exact hreports n e hlo hhi hne
  | some f =>
    rw [hfail] at hreports
    obtain ⟨hfails, hpage, -, -, hfirst⟩ := hreports
    refine ⟨hfails, hpage, fun n e hne => ?_⟩
    obtain ⟨hlo, hhi⟩ := checkFails_number s hne
    exact hfirst n e hlo hhi hne

/-! ### The mode commands (R29, R31, R32) -/

theorem ctlCode_controlWord (c : Command) (body : BitVec 24) : ctlCode (controlWord c body) = c.code :=
  BitVec.extractLsb'_append_eq_left

theorem exec_modeRun (body : BitVec 24) (s : State) : exec (.modeRun body) s = .next
    { (takeModeRun (written s controlAddr (1#8 ++ body))).1 with
      controlCode := (1#8 ++ body).extractLsb' 24 8
      controlResult := (takeModeRun (written s controlAddr (1#8 ++ body))).2 } := rfl

theorem takeModeRun_run {s : State} (hm : s.mode = .run) : takeModeRun s = (s, .mode) := by
  rw [takeModeRun, hm]

theorem takeModeRun_failing {s : State} (hm : s.mode = .setup) {f : FailedCheck} (hf : profileFailure s = some f) :
    takeModeRun s = (recordFailure f s, .profile) := by
  rw [takeModeRun, hm, hf]

theorem takeModeRun_passing {s : State} (hm : s.mode = .setup) (hf : profileFailure s = none) :
    takeModeRun s = (enterRun s, .accepted) := by
  rw [takeModeRun, hm, hf]

/-! #### Faults captured without a head -/

/-- The capture table and its overflow flag after a fault of a kind is taken (R173). -/
def tableAfter (f : FaultReport) (t : Vector (Option CaptureEntry) 4 × Bool) : Vector (Option CaptureEntry) 4 × Bool :=
  match captureSlotOf t.1 f.kind, captureFreeSlot t.1 with
  | some i, _ => (t.1.set i (t.1[i].map CaptureEntry.again), t.2)
  | none, some i => (t.1.set i (some { report := f, repeats := 0 }), t.2)
  | none, none => (t.1, true)

/-- The state with a capture table and overflow flag. -/
def withTable (s : State) (t : Vector (Option CaptureEntry) 4 × Bool) : State :=
  { s with capture := t.1, overflow := t.2 }

/-- A fault that names no head changes the table and the overflow flag only. -/
theorem captureFault_headless {f : FaultReport} (hf : f.head = none) (s : State) :
    captureFault f s = withTable s (tableAfter f (s.capture, s.overflow)) := by
  unfold tableAfter
  cases hslot : captureSlotOf s.capture f.kind with
  | some i => rw [captureFault_repeat hslot, hf]; rfl
  | none =>
    cases hfree : captureFreeSlot s.capture with
    | some i => rw [captureFault_new hslot hfree, hf]; rfl
    | none => rw [captureFault_full hslot hfree, hf]; rfl

/-- STRAY at socket i as MODE RUN captures it (R31). -/
def strayAt (i : SocketIx) : FaultReport :=
  { kind := .stray, head := none, socket := some i, slot := none, detail := 0 }

theorem captureStrays_eq (l : List SocketIx) (s : State) :
    captureStrays l s = withTable s (l.foldl (fun t i => tableAfter (strayAt i) t) (s.capture, s.overflow)) := by
  induction l generalizing s with
  | nil => rfl
  | cons i rest ih =>
    show captureStrays rest (captureFault (strayAt i) s) = _
    rw [ih, captureFault_headless rfl]
    rfl

theorem startPhase_eq (enabled present : Bool) : startPhase enabled present =
    if enabled = false then .disabled else if present then .fault .stray none else .empty := by
  cases enabled <;> cases present <;> rfl

/-! #### The two statements -/

/-- Settles O9: refused in RUN or by a failing check; otherwise each socket is set up and the strays are captured. -/
theorem modeRunChecksAndEnters : Obligations.ModeRunChecksAndEnters := by
  unfold Obligations.ModeRunChecksAndEnters
  intro body s
  refine ⟨fun hm => ?_, fun hm f hf => ?_, fun hm hf => ?_⟩
  · rw [exec_modeRun, takeModeRun_run (s := written s controlAddr (1#8 ++ body)) hm]
    rfl
  · rw [exec_modeRun, takeModeRun_failing (s := written s controlAddr (1#8 ++ body)) hm hf]
    rfl
  · rw [exec_modeRun, takeModeRun_passing (s := written s controlAddr (1#8 ++ body)) hm hf]
    simp only [enterRun, captureStrays_eq]
    refine ⟨_, rfl, rfl, fun i => ?_, ?_⟩
    · simp only [withTable, getElem_ofFn_fin, startSocket, startPhase_eq]
      rfl
    · show _ = (captureStrays (occupiedAtStart s) s).capture ∧ _ = (captureStrays (occupiedAtStart s) s).overflow
      rw [captureStrays_eq]
      exact ⟨rfl, rfl⟩

theorem exec_modeSetup (body : BitVec 24) (s : State) : exec (.modeSetup body) s = .next
    { (takeModeSetup (written s controlAddr (2#8 ++ body))).1 with
      controlCode := (2#8 ++ body).extractLsb' 24 8
      controlResult := (takeModeSetup (written s controlAddr (2#8 ++ body))).2 } := rfl

theorem takeModeSetup_setup {s : State} (hm : s.mode = .setup) : takeModeSetup s = (s, .mode) := by
  rw [takeModeSetup, hm]

theorem takeModeSetup_busy {s : State} (hm : s.mode = .run) (hwork : workInFlight s = true) :
    takeModeSetup s = (s, .busy) := by
  simp only [takeModeSetup, hm, hwork, if_true]

theorem takeModeSetup_units {s : State} (hm : s.mode = .run) (hwork : workInFlight s = false)
    (hunits : unitsCarried s ≠ 0) : takeModeSetup s = (s, .units) := by
  simp only [takeModeSetup, hm, hwork, Bool.false_eq_true, if_false, if_pos hunits]

theorem takeModeSetup_resets {s : State} (hm : s.mode = .run) (hwork : workInFlight s = false)
    (hunits : unitsCarried s = 0) : takeModeSetup s = (deckReset s, .accepted) := by
  simp only [takeModeSetup, hm, hwork, Bool.false_eq_true, if_false, hunits, ne_eq, not_true_eq_false]

/-- What MODE SETUP finds in flight: a held or CLEARED order at a fetch index, or a FAULTED head (R32). -/
theorem workInFlight_iff (s : State) : workInFlight s = true ↔
    (∃ h, (s.orderAt h).state.active = true) ∨ ∃ h, headState s h = .faulted := by
  have heads : ∀ h : HeadIx, h ∈ allHeads := by decide
  simp [workInFlight, heads, OrderState.active, exists_or]

/-- The snapshot shows nothing of the memory and of the last grant. -/
theorem deckReset_written (s : State) (a : Nat) (w : Word) :
    deckReset (written s a w) = written (deckReset s) a w := rfl

/-- A deck reset with no unit carried discards none. -/
theorem deckReset_discarded {s : State} (hunits : unitsCarried s = 0) : (deckReset s).discarded = s.discarded := by
  show s.discarded + BitVec.ofNat 32 (unitsCarried s) = s.discarded
  rw [hunits]
  exact BitVec.add_zero _

/-- Settles O8: refused in SETUP, with work in flight, or with a unit carried; otherwise the deck is reset. -/
theorem modeSetupIsCarefulReset : Obligations.ModeSetupIsCarefulReset := by
  unfold Obligations.ModeSetupIsCarefulReset
  intro body s
  refine ⟨fun hm => ?_, fun hm hwork => ?_, fun hm hidle hsane => ?_⟩
  · rw [exec_modeSetup, takeModeSetup_setup (s := written s controlAddr (2#8 ++ body)) hm]
    rfl
  · rw [exec_modeSetup,
      takeModeSetup_busy (s := written s controlAddr (2#8 ++ body)) hm ((workInFlight_iff s).mpr hwork)]
    rfl
  · have hwork : workInFlight s = false := by
      rw [Bool.eq_false_iff, ne_eq, workInFlight_iff]
      rintro (⟨h, hactive⟩ | ⟨h, hfaulted⟩)
      · rw [hidle h] at hactive
        cases hactive
      · exact hsane h hfaulted
    refine ⟨fun hunits => ?_, fun hunits => ⟨_, exec_deckReset body s, ?_, ?_⟩⟩
    · rw [exec_modeSetup, takeModeSetup_units (s := written s controlAddr (2#8 ++ body)) hm hwork hunits]
      rfl
    · exact deckReset_discarded (s := written s controlAddr (3#8 ++ body)) hunits
    · rw [exec_modeSetup, takeModeSetup_resets (s := written s controlAddr (2#8 ++ body)) hm hwork hunits,
        show (2#8 ++ body).extractLsb' 24 8 = 2 from ctlCode_controlWord .modeSetup body, deckReset_written,
        deckReset_written]
      rfl

end Sys2Proof.Machine

/-! Move orders and the head rings: the chain of a slot with the static checks, the words taken and the codes shown, leg
writes, posts, withdraws and retires, and the writes that are suppressed. -/

namespace Sys2Proof.Machine

/-! ### The chain of a slot (R37) -/

/-- What IsChain says of an order's legs, said of a list of captured legs. -/
def ChainsFrom (words : List (Option Leg)) (legs : List Leg) : Prop :=
  legs ≠ [] ∧
    ∀ (j : Nat) (l : Leg), legs[j]? = some l → words[j]? = some (some l) ∧ (l.more = true ↔ j + 1 < legs.length)

theorem isChain_iff_chainsFrom (o : Order) (legs : List Leg) : IsChain o legs ↔ ChainsFrom o.legs.toList legs := by
  simp only [IsChain, ChainsFrom, Vector.getElem?_toList]

theorem not_chainsFrom_nil (words : List (Option Leg)) : ¬ ChainsFrom words [] := fun ⟨hne, _⟩ => hne rfl

theorem not_chainsFrom_of_no_words (legs : List Leg) : ¬ ChainsFrom [] legs := by
  rintro ⟨hne, hlegs⟩
  cases legs with
  | nil => exact hne rfl
  | cons l tail => exact nomatch (hlegs 0 l rfl).1

/-- The first word is the first leg, and MORE says whether the chain goes on from the next word. -/
theorem chainsFrom_cons_iff (x : Option Leg) (words : List (Option Leg)) (l : Leg) (tail : List Leg) :
    ChainsFrom (x :: words) (l :: tail) ↔
      x = some l ∧ if l.more then ChainsFrom words tail else tail = [] := by
  constructor
  · rintro ⟨-, hlegs⟩
    obtain ⟨hx, hmore⟩ := hlegs 0 l rfl
    refine ⟨Option.some.inj hx, ?_⟩
    split_ifs with hm
    · refine ⟨fun htail => ?_, fun j m hj => ?_⟩
      · have := hmore.mp hm
        simp [htail] at this
      · obtain ⟨hword, hgoes⟩ := hlegs (j + 1) m hj
        exact ⟨hword, hgoes.trans Nat.succ_lt_succ_iff⟩
    · cases tail with
      | nil => rfl
      | cons m tail => exact absurd (hmore.mpr (by simp)) hm
  · rintro ⟨rfl, hrest⟩
    refine ⟨List.cons_ne_nil _ _, fun j m hj => ?_⟩
    cases j with
    | zero =>
      obtain rfl : l = m := Option.some.inj hj
      refine ⟨rfl, ?_⟩
      split_ifs at hrest with hm
      · simpa [hm, List.length_pos_iff] using hrest.1
      · simp [hm, hrest]
    | succ j =>
      split_ifs at hrest with hm
      · obtain ⟨hword, hgoes⟩ := hrest.2 j m hj
        exact ⟨hword, hgoes.trans Nat.succ_lt_succ_iff.symm⟩
      · subst hrest
        cases hj

theorem chainOf_eq_some_iff (words : List (Option Leg)) (legs : List Leg) :
    chainOf words = some legs ↔ ChainsFrom words legs := by
  induction words generalizing legs with
  | nil => exact iff_of_false nofun (not_chainsFrom_of_no_words legs)
  | cons x words ih =>
    cases legs with
    | nil =>
      refine iff_of_false (fun h => ?_) (not_chainsFrom_nil _)
      exact absurd (chainOf_pos h) (Nat.lt_irrefl 0)
    | cons l tail =>
      rw [chainsFrom_cons_iff]
      cases x with
      | none => exact iff_of_false nofun (fun h => nomatch h.1)
      | some m =>
        rcases eq_or_ne m l with rfl | hne
        · cases hm : m.more with
          | true => simp [chainOf, hm, ih]
          | false => simp [chainOf, hm, eq_comm]
        · cases hm : m.more <;> simp [chainOf, hm, hne]

theorem chain?_eq_some_iff (o : Order) (legs : List Leg) : o.chain? = some legs ↔ IsChain o legs :=
  (chainOf_eq_some_iff _ _).trans (isChain_iff_chainsFrom o legs).symm

theorem chain?_eq_none_iff (o : Order) : o.chain? = none ↔ ∀ legs, ¬ IsChain o legs := by
  simp only [Option.eq_none_iff_forall_ne_some, ne_eq, chain?_eq_some_iff]

/-! ### The static checks, leg by leg (R49) -/

theorem zoneType_eq_input_iff (c : BitVec 3) : zoneTypeOfCode c = some .input ↔ c = 3 := by
  revert c; decide

section

variable (s : State) (l : Leg)

theorem Leg.handles_iff : l.handles = true ↔ l.action = .pick ∨ l.action = .place := by
  simp [Leg.handles]

theorem inputPick_iff : inputPick s l = true ↔ l.action = .pick ∧ s.zonePage[l.zone].type = 3 := by
  simp only [inputPick, State.zoneType, Bool.and_eq_true, beq_iff_eq, zoneType_eq_input_iff]

/-- Check 2 fails for an unnamed action, a PICK outside INPUT and SITE, a PLACE outside SITE and BIN, or a TRAVEL to an
unused zone. -/
theorem actionAllowed_eq_false_iff :
    actionAllowed s l = false ↔ l.action = .unnamed ∨
      (l.action = .pick ∧ s.zonePage[l.zone].type ≠ 3 ∧ s.zonePage[l.zone].type ≠ 4) ∨
      (l.action = .place ∧ s.zonePage[l.zone].type ≠ 4 ∧ s.zonePage[l.zone].type ≠ 5) ∨
      (l.action = .travel ∧ s.zonePage[l.zone].type = 0) := by
  unfold actionAllowed State.zoneType
  generalize s.zonePage[l.zone].type = ty
  cases l.action <;> revert ty <;> decide

/-- Check 3 fails where the leg handles a socket of a SITE zone that lies in another zone. -/
theorem socketLiesInZone_eq_false_iff : socketLiesInZone s l = false ↔
    (l.action = .pick ∨ l.action = .place) ∧ s.zonePage[l.zone].type = 4 ∧ s.socketPage[l.socket].zone ≠ l.zone := by
  have hnamed : (l.handles && s.zoneType l.zone == some .site) = true ↔
      (l.action = .pick ∨ l.action = .place) ∧ s.zonePage[l.zone].type = 4 := by
    simp only [State.zoneType, Bool.and_eq_true, beq_iff_eq, Leg.handles_iff, zoneType_eq_site_iff]
  unfold socketLiesInZone legSocket
  rw [← and_assoc, ← hnamed]
  split_ifs with hsite <;> simp [hsite]

/-- Check 4 fails where a one-nozzle head's leg names the nozzle it lacks. -/
theorem nozzleFitted_eq_false_iff (e : HeadEntry) : nozzleFitted e l = false ↔
    (l.action = .pick ∨ l.action = .place) ∧ e.twoNozzles = false ∧ (l.nozzle = .b ∨ l.nozzle = .other) := by
  simp only [nozzleFitted, Bool.not_eq_false', Bool.and_eq_true, Bool.or_eq_true, Bool.not_eq_true', beq_iff_eq,
    Leg.handles_iff, and_assoc]

end

/-- Check 5 for one leg: an input pick's TAG is not 0, and no earlier input pick has it. -/
def TagFits (s : State) (legs : List Leg) (j : Nat) (l : Leg) : Prop :=
  inputPick s l = true →
    l.tag ≠ 0 ∧ ∀ (i : Nat) (m : Leg), i < j → legs[i]? = some m → inputPick s m = true → m.tag ≠ l.tag

/-- Two legs do not pick the same tag. -/
def TagsApart (s : State) (m l : Leg) : Prop := inputPick s m = true → inputPick s l = true → m.tag ≠ l.tag

/-- Check 5 over a chain, with the tags that legs before the chain have picked. -/
theorem tagsFit_iff_pairwise (s : State) (seen : List Tag) (legs : List Leg) : tagsFit s seen legs = true ↔
    (∀ l ∈ legs, inputPick s l = true → l.tag ≠ 0 ∧ l.tag ∉ seen) ∧ legs.Pairwise (TagsApart s) := by
  induction legs generalizing seen with
  | nil => simp [tagsFit]
  | cons l rest ih =>
    rw [tagsFit, List.pairwise_cons, List.forall_mem_cons]
    by_cases hpick : inputPick s l = true
    · simp only [hpick, if_true, Bool.and_eq_true, ih, TagsApart, List.mem_cons]
      grind
    · simp [hpick, ih, TagsApart]

theorem tagsFit_iff (s : State) (legs : List Leg) :
    tagsFit s [] legs = true ↔ ∀ (j : Nat) (l : Leg), legs[j]? = some l → TagFits s legs j l := by
  rw [tagsFit_iff_pairwise, List.pairwise_iff_getElem]
  simp only [List.not_mem_nil, not_false_eq_true, and_true]
  constructor
  · rintro ⟨hzero, hapart⟩ j l hj hpick
    refine ⟨hzero l (List.mem_of_getElem? hj) hpick, fun i m hij hi hm => ?_⟩
    obtain ⟨hilt, rfl⟩ := List.getElem?_eq_some_iff.mp hi
    obtain ⟨hjlt, rfl⟩ := List.getElem?_eq_some_iff.mp hj
    exact hapart i j hilt hjlt hij hm hpick
  · intro hfits
    refine ⟨fun l hl hpick => ?_, fun i j hi hj hij hm hpick => ?_⟩
    · obtain ⟨j, hj⟩ := List.mem_iff_getElem?.mp hl
      exact (hfits j l hj hpick).1
    · exact (hfits j _ (List.getElem?_eq_getElem hj) hpick).2 i _ hij (List.getElem?_eq_getElem hi) hm

theorem not_tagFits_iff (s : State) (legs : List Leg) (j : Nat) (l : Leg) : ¬ TagFits s legs j l ↔
    l.action = .pick ∧ s.zonePage[l.zone].type = 3 ∧
      (l.tag = 0 ∨ ∃ i m, i < j ∧ legs[i]? = some m ∧ m.action = .pick ∧ s.zonePage[m.zone].type = 3 ∧
        m.tag = l.tag) := by
  simp only [TagFits, inputPick_iff, not_forall, not_and_or, not_not, ne_eq, exists_prop, and_assoc]

/-- A leg is malformed just where it fails one of the checks 2 to 5 that the part makes. -/
theorem legMalformed_iff (s : State) (h : HeadIx) (legs : List Leg) (j : Nat) (l : Leg) :
    LegMalformed s h legs j l ↔ actionAllowed s l = false ∨ socketLiesInZone s l = false ∨
      nozzleFitted s.headPage[h] l = false ∨ ¬ TagFits s legs j l := by
  rw [actionAllowed_eq_false_iff, socketLiesInZone_eq_false_iff, nozzleFitted_eq_false_iff, not_tagFits_iff]
  simp only [LegMalformed, or_assoc]

/-- The checks 2 to 5 over a whole chain, as the part makes them. -/
def chainWellFormed (s : State) (h : HeadIx) (legs : List Leg) : Bool :=
  legs.all (actionAllowed s) && legs.all (socketLiesInZone s) && legs.all (nozzleFitted s.headPage[h]) &&
    tagsFit s [] legs

theorem all_iff_getElem? {α : Type} (p : α → Bool) (l : List α) :
    l.all p = true ↔ ∀ (j : Nat) (x : α), l[j]? = some x → p x = true := by
  simp only [List.all_eq_true, List.mem_iff_getElem?, forall_exists_index]
  exact forall_comm

theorem chainWellFormed_iff (s : State) (h : HeadIx) (legs : List Leg) :
    chainWellFormed s h legs = true ↔ ¬ ChainMalformed s h legs := by
  simp only [chainWellFormed, ChainMalformed, legMalformed_iff, Bool.and_eq_true, all_iff_getElem?, tagsFit_iff,
    not_exists, not_and, not_or, Bool.not_eq_false, not_not, ← forall_and, and_assoc]

/-! ### Reach and path (R49, checks 6 and 7) -/

/-- Check 6 over a whole chain, as the part makes it. -/
def chainReached (s : State) (h : HeadIx) (legs : List Leg) : Bool := legs.all (fun l => s.reaches h l.zone)

theorem chainReached_iff (s : State) (h : HeadIx) (legs : List Leg) :
    chainReached s h legs = true ↔ ¬ ChainUnreachable s h legs := by
  simp only [chainReached, List.all_eq_true, ChainUnreachable, not_exists, not_and, Bool.not_eq_false]
  rfl

/-- A leg's zone is that of the leg before it or adjacent to it. -/
def Follows (s : State) (l m : Leg) : Prop :=
  m.zone = l.zone ∨ s.zonePage[l.zone].neighbours.getLsbD m.zone = true

theorem pathConnected_iff_follows (s : State) (legs : List Leg) :
    pathConnected s legs = true ↔ legs.IsChain (Follows s) := by
  induction legs with
  | nil => simp [pathConnected]
  | cons l rest ih =>
    cases rest with
    | nil => simp [pathConnected]
    | cons m rest =>
      rw [pathConnected, Bool.and_eq_true, ih, List.isChain_cons_cons, Bool.or_eq_true, beq_iff_eq]
      rfl

theorem pathConnected_iff (s : State) (legs : List Leg) :
    pathConnected s legs = true ↔ ¬ ChainBroken s legs := by
  rw [pathConnected_iff_follows, List.isChain_iff_getElem]
  constructor
  · rintro hfollows ⟨j, l, m, hl, hm, hzone, hadjacent⟩
    obtain ⟨_, rfl⟩ := List.getElem?_eq_some_iff.mp hl
    obtain ⟨hj, rfl⟩ := List.getElem?_eq_some_iff.mp hm
    obtain hsame | hnext := hfollows j hj
    · exact hzone hsame
    · exact Bool.eq_false_iff.mp hadjacent hnext
  · intro hbroken j hj
    by_contra hnot
    obtain ⟨hzone, hadjacent⟩ := not_or.mp hnot
    exact hbroken ⟨j, _, _, List.getElem?_eq_getElem (Nat.lt_of_succ_lt hj), List.getElem?_eq_getElem hj, hzone,
      Bool.eq_false_iff.mpr hadjacent⟩

/-! ### The outcome of the static checks (R48, R49) -/

theorem postFailure_absent {s : State} {h : HeadIx} (hp : s.headPage[h].present = false) (o : Order) :
    postFailure s h o = some .reach := by
  simp only [postFailure, hp, Bool.false_eq_true, if_false]

theorem postFailure_unchained {s : State} {h : HeadIx} {o : Order} (hp : s.headPage[h].present = true)
    (hc : o.chain? = none) : postFailure s h o = some .malformed := by
  simp only [postFailure, hp, if_true, staticFailure, hc]

theorem postFailure_chained {s : State} {h : HeadIx} {o : Order} {legs : List Leg}
    (hp : s.headPage[h].present = true) (hc : o.chain? = some legs) :
    postFailure s h o =
      if !chainWellFormed s h legs then some .malformed
      else if !chainReached s h legs then some .reach
      else if !pathConnected s legs then some .path
      else none := by
  simp only [postFailure, hp, if_true, staticFailure, hc]
  rfl

/-- Settles O29: the chain by recursion over the leg words; each check of the part fails just where its clause says. -/
theorem staticChecksInOrder : Obligations.StaticChecksInOrder := by
  unfold Obligations.StaticChecksInOrder
  refine ⟨chain?_eq_some_iff, fun s h o => ⟨fun hp => postFailure_absent hp o, fun hp => ⟨fun hnone => ?_, ?_⟩⟩⟩
  · exact postFailure_unchained hp ((chain?_eq_none_iff o).mpr hnone)
  · intro legs hchain
    have hform := chainWellFormed_iff s h legs
    have hreach := chainReached_iff s h legs
    have hpath := pathConnected_iff s legs
    rw [postFailure_chained hp ((chain?_eq_some_iff o legs).mpr hchain)]
    refine ⟨fun hm => ?_, fun hm hu => ?_, fun hm hu hb => ?_, fun hm hu hb => ?_⟩
    · simp [hform, hm]
    · simp [hform.mpr hm, hreach, hu]
    · simp [hform.mpr hm, hreach.mpr hu, hpath, hb]
    · simp [hform.mpr hm, hreach.mpr hu, hpath.mpr hb]

/-! ### The words the part takes, and its codes (11_word_formats) -/

theorem getLsbD_ofBool_zero (b : Bool) : (BitVec.ofBool b).getLsbD 0 = b := by
  cases b <;> rfl

theorem legWord_fields (more : Bool) (a : BitVec 2) (z sk : BitVec 4) (n : BitVec 2) (tag : Tag) (x : BitVec 1)
    (y : BitVec 2) (v : BitVec 4) :
    let w : Word := BitVec.ofBool more ++ x ++ a ++ z ++ sk ++ y ++ n ++ v ++ tag
    bitAt w 31 = more ∧ w.extractLsb' 24 4 = z ∧ w.extractLsb' 20 4 = sk ∧ w.extractLsb' 0 12 = tag ∧
      w.extractLsb' 28 2 = a ∧ w.extractLsb' 16 2 = n := by
  refine ⟨?_, ?_, ?_, ?_, ?_, ?_⟩ <;>
    simp (disch := omega) only [bitAt, BitVec.getLsbD_append, getLsbD_ofBool_zero,
      BitVec.extractLsb'_append_eq_of_le, BitVec.extractLsb'_append_eq_of_add_le, BitVec.extractLsb'_eq_self,
      Nat.reduceSub, Nat.reduceLT, if_false]

theorem legAction_iff (w : Word) :
    (legAction w = .travel ↔ w.extractLsb' 28 2 = 0) ∧ (legAction w = .pick ↔ w.extractLsb' 28 2 = 1) ∧
    (legAction w = .place ↔ w.extractLsb' 28 2 = 2) := by
  unfold legAction
  generalize w.extractLsb' 28 2 = a
  revert a
  decide

theorem legNozzleSel_iff (w : Word) :
    (legNozzleSel w = .a ↔ w.extractLsb' 16 2 = 0) ∧ (legNozzleSel w = .b ↔ w.extractLsb' 16 2 = 1) ∧
    (legNozzleSel w = .active ↔ w.extractLsb' 16 2 = 2) := by
  unfold legNozzleSel
  generalize w.extractLsb' 16 2 = n
  revert n
  decide

theorem headerWord_fields (post nowait : Bool) (q : Seq) (x : BitVec 6) (y : BitVec 16) :
    let w : Word := BitVec.ofBool post ++ BitVec.ofBool nowait ++ x ++ q ++ y
    headerPost w = post ∧ headerNowait w = nowait ∧ headerSeq w = q := by
  refine ⟨?_, ?_, ?_⟩ <;>
    simp (disch := omega) only [headerPost, headerNowait, headerSeq, bitAt, BitVec.getLsbD_append,
      getLsbD_ofBool_zero, BitVec.extractLsb'_append_eq_of_le, BitVec.extractLsb'_append_eq_of_add_le,
      BitVec.extractLsb'_eq_self, Nat.reduceSub, Nat.reduceLT, if_false, if_true]

theorem reportOutcome_iff (w : Word) :
    (reportOutcome w = .legDone ↔ w.extractLsb' 30 2 = 1) ∧
    (reportOutcome w = .legFailed ↔ w.extractLsb' 30 2 = 2) := by
  unfold reportOutcome
  generalize w.extractLsb' 30 2 = c
  revert c
  decide

theorem reportWord_fields (c : BitVec 2) (k : BitVec 4) (j : BitVec 3) (code : BitVec 8) (x : BitVec 2)
    (y : BitVec 1) (v : BitVec 12) :
    let w : Word := c ++ x ++ k ++ y ++ j ++ v ++ code
    w.extractLsb' 30 2 = c ∧ reportSlot w = k.toFin ∧ reportLeg w = j.toNat ∧ reportDriveCode w = code := by
  refine ⟨?_, ?_, ?_, ?_⟩ <;>
    simp (disch := omega) only [reportSlot, reportLeg, reportDriveCode, BitVec.extractLsb'_append_eq_of_le,
      BitVec.extractLsb'_append_eq_of_add_le, BitVec.extractLsb'_eq_self, Nat.reduceSub]

theorem controlWord_fields (c : BitVec 8) (x h : BitVec 2) (z f : BitVec 4) (q : Seq) (y : BitVec 4) :
    let w : Word := c ++ x ++ h ++ z ++ f ++ q ++ y
    ctlCode w = c ∧ ctlHead w = h.toFin ∧ ctlZone w = z.toFin ∧ ctlFetchSlot w = f.toFin ∧ ctlSeq w = q := by
  refine ⟨?_, ?_, ?_, ?_, ?_⟩ <;>
    simp (disch := omega) only [ctlCode, ctlHead, ctlZone, ctlFetchSlot, ctlSeq, BitVec.extractLsb'_append_eq_of_le,
      BitVec.extractLsb'_append_eq_of_add_le, BitVec.extractLsb'_eq_self, Nat.reduceSub]

/-- Only REFUSED and ABORTED, whose codes are 7 and 8, have a disposition reason (R38). -/
theorem reasonCode_of_code_lt {o : OrderState} (h : o.code.toNat < 7) : o.reasonCode = 0 := by
  cases o with
  | refused r => exact absurd h (Nat.lt_irrefl 7)
  | aborted c => exact absurd h (Nat.not_lt.mpr (Nat.le_succ 7))
  | _ => rfl

/-- Settles O46: each word taken is read field by field at its places, and each table of codes is the part's. -/
theorem wordFieldsStandWhereGiven : Obligations.WordFieldsStandWhereGiven := by
  unfold Obligations.WordFieldsStandWhereGiven
  refine ⟨fun more a z sk n tag x y v => ?_, headerWord_fields, fun c k j code x y v => ?_, controlWord_fields,
    ⟨rfl, fun _ => ⟨rfl, rfl⟩, fun _ => ⟨rfl, rfl⟩, fun _ => reasonCode_of_code_lt⟩, rfl, rfl,
    fun u h n r v => ⟨rfl, rfl⟩, rfl, rfl, rfl, rfl, rfl, rfl⟩
  · obtain ⟨hmore, hzone, hsocket, htag, haction, hnozzle⟩ := legWord_fields more a z sk n tag x y v
    obtain ⟨htravel, hpick, hplace⟩ := haction ▸ legAction_iff _
    obtain ⟨ha, hb, hactive⟩ := hnozzle ▸ legNozzleSel_iff _
    exact ⟨hmore, congrArg BitVec.toFin hzone, congrArg BitVec.toFin hsocket, htag, htravel, hpick, hplace, ha, hb,
      hactive⟩
  · obtain ⟨houtcome, hslot, hleg, hcode⟩ := reportWord_fields c k j code x y v
    obtain ⟨hdone, hfailed⟩ := houtcome ▸ reportOutcome_iff _
    exact ⟨hdone, hfailed, hslot, hleg, hcode⟩

/-! ### Suppressed writes (R9, R10) -/

theorem controllerProtect_eq (h : HeadIx) (k : Option SlotIx) (s : State) :
    controllerProtect h k s = controllerSuppressed s h k := by
  rw [controllerProtect, countUp_eq_oneMore]
  rfl

theorem driveProtect_eq (h : HeadIx) (s : State) : driveProtect h s = driveSuppressed s h := by
  rw [driveProtect, countDriveProtect, countUp_eq_oneMore]
  rfl

/-- The drive writes that the map suppresses, by address (R4, R7, R9). -/
theorem driveWriteSuppressed_of_addr {h : HeadIx} {a : Addr}
    (ha : a.toNat = 0 ∨ (0x10 ≤ a.toNat ∧ a.toNat ≤ 0x13) ∨ (0x40 ≤ a.toNat ∧ a.toNat < 0x100) ∨
      (0x100 ≤ a.toNat ∧ a.toNat < 0x104 ∧ a.toNat ≠ 0x100 + h) ∨ (0x200 ≤ a.toNat ∧ a.toNat < 0x400)) :
    driveWriteSuppressed h (regionOf a) = true := by
  have hc := regionOf_covers a
  generalize regionOf a = r at hc
  cases hc with
  | report g hg =>
    have hne : g ≠ h := by
      rintro rfl
      unfold reportAddr at hg
      omega
    simpa [driveWriteSuppressed] using hne
  | unassigned hr => omega
  | plain hr => omega
  | _ => rfl

/-- A header write that its slot's state suppresses, in RUN (R45, R53). -/
theorem writeHeader_suppressed {h : HeadIx} {k : SlotIx} {w : Word} {s : State} (hm : s.mode = .run)
    (hs : (headerPost w = true ∧ (s.order h k).state.live = true) ∨
      (headerPost w = false ∧ (s.order h k).state = .cleared)) :
    writeHeader h k w s = controllerProtect h (some k) s := by
  simp only [writeHeader, hm]
  obtain ⟨hpost, hlive⟩ | ⟨hpost, hcleared⟩ := hs
  · simp only [hpost, headerWithPost, hlive, if_true]
  · simp only [hpost, headerWithoutPost, hcleared, Bool.false_eq_true, if_false]

/-- Settles O31: each of the writes is one the slot's state or the map suppresses. -/
theorem suppressedWritesCounted : Obligations.SuppressedWritesCounted := by
  unfold Obligations.SuppressedWritesCounted
  refine ⟨fun h k w s hm hs => ?_, fun h w s => ?_, fun h a w s ha => ?_⟩ <;> refine congrArg Host.Outcome.next ?_
  · exact (writeHeader_suppressed hm hs).trans (controllerProtect_eq h (some k) s)
  · exact controllerProtect_eq h none s
  · exact (if_pos (driveWriteSuppressed_of_addr ha)).trans (driveProtect_eq h s)

/-! ### Leg writes (R41 to R43) -/

theorem legAddr_eq (h : HeadIx) (k : SlotIx) (j : Fin 7) :
    legAddr h k j = 0x200 + 128 * h.val + 8 * k.val + (j.val + 1) := by
  simp only [legAddr, headerAddr]
  omega

theorem writeLeg_live {h : HeadIx} {k : SlotIx} {s : State} (hlive : (s.order h k).state.live = true) (j : Fin 7)
    (w : Word) : writeLeg h k j w s = controllerProtect h (some k) s := by
  simp only [writeLeg, hlive, if_true]

/-- On a slot that is not live the leg is captured into the record as it stands, or into the reopened one. -/
theorem writeLeg_captures {h : HeadIx} {k : SlotIx} {s : State} (hlive : (s.order h k).state.live = false) (j : Fin 7)
    (w : Word) :
    writeLeg h k j w s = (written s (0x200 + 128 * h + 8 * k + (j + 1)) w).setOrder h k
      ((if (s.order h k).state.finished then Order.reopened else s.order h k).capturing j (legOfWord w)) := by
  simp only [writeLeg, hlive, Bool.false_eq_true, if_false, legAddr_eq]
  rfl

theorem OrderState.not_live_of_finished {o : OrderState} (h : o.finished = true) : o.live = false := by
  cases o with
  | done | refused r | aborted c => rfl
  | _ => cases h

/-- Settles O27: the three classes of state that a slot can be in. -/
theorem legWriteCapturesLeg : Obligations.LegWriteCapturesLeg := by
  unfold Obligations.LegWriteCapturesLeg
  intro h k j w s
  refine ⟨fun hlive => ?_, fun hopen => ?_, fun hfinished => ?_⟩ <;> refine congrArg Host.Outcome.next ?_
  · exact (writeLeg_live hlive j w).trans (controllerProtect_eq h (some k) s)
  · have hlive : (s.order h k).state.live = false := by
      obtain hs | hs := hopen <;> rw [hs] <;> rfl
    have hfinished : (s.order h k).state.finished = false := by
      obtain hs | hs := hopen <;> rw [hs] <;> rfl
    rw [writeLeg_captures hlive, hfinished]
    rfl
  · rw [writeLeg_captures (OrderState.not_live_of_finished hfinished), hfinished]
    rfl

/-! ### Posts (R46 to R51) -/

theorem headerPost_postHeader (body : BitVec 31) : headerPost (postHeader body) = true := by
  simp only [headerPost, bitAt, postHeader, BitVec.getLsbD_append, Nat.lt_irrefl, if_false]
  rfl

theorem headerNowait_postHeader (body : BitVec 31) : headerNowait (postHeader body) = body.getLsbD 30 := by
  simp only [headerNowait, bitAt, postHeader, BitVec.getLsbD_append, Nat.reduceLT, if_true]

theorem headerSeq_postHeader (body : BitVec 31) : headerSeq (postHeader body) = body.extractLsb' 16 8 :=
  BitVec.extractLsb'_append_eq_of_add_le (by decide)

theorem headerPost_clearHeader (body : BitVec 31) : headerPost (clearHeader body) = false := by
  simp only [headerPost, bitAt, clearHeader, BitVec.getLsbD_append, Nat.lt_irrefl, if_false]
  rfl

/-- The static checks read of a record its legs only. -/
theorem postFailure_offered (s : State) (h : HeadIx) (o : Order) (w : Word) :
    postFailure s h (o.offered w) = postFailure s h o := rfl

theorem exec_post {h : HeadIx} {k : SlotIx} {s : State} (hm : s.mode = .run)
    (hlive : (s.order h k).state.live = false) (body : BitVec 31) :
    exec (.post h k body) s = .next (postOrder h k (postHeader body) s) := by
  refine congrArg Host.Outcome.next ?_
  simp only [writeHeader, hm, headerPost_postHeader, if_true, headerWithPost, hlive, Bool.false_eq_true, if_false]

theorem postOrder_match {h : HeadIx} {k : SlotIx} {w : Word} {s : State} (hseq : headerSeq w = s.expectedSeq[h]) :
    postOrder h k w s =
      { written s (headerAddr h k) w with
        expectedSeq := s.expectedSeq.set h (headerSeq w + 1)
        counters := s.counters.set h { s.counters[h] with live := false } }.setOrder h k
      { (s.order h k).offered w with state := postedState (postFailure s h (s.order h k)) } := by
  simp only [postOrder, if_pos hseq]
  rfl

theorem sequenceError_eq (h : HeadIx) (k : SlotIx) (s : State) :
    sequenceError h k s =
      captureFault { kind := .sequence, head := some h, socket := none, slot := some k, detail := 0 }
        { s with
          counters := s.counters.set h
            { s.counters[h] with
              sequenceErrors := oneMore s.counters[h].sequenceErrors, live := true, sticky := true } } := by
  simp only [sequenceError, countSequenceError, State.setCounters, getElem_set_fin, if_true, Vector.set_set,
    countUp_eq_oneMore]

theorem postOrder_mismatch {h : HeadIx} {k : SlotIx} {w : Word} {s : State} (hseq : headerSeq w ≠ s.expectedSeq[h]) :
    postOrder h k w s =
      (sequenceError h k
        { written s (headerAddr h k) w with expectedSeq := s.expectedSeq.set h (headerSeq w + 1) }).setOrder h k
      { (s.order h k).offered w with state := .refused .sequence } := by
  simp only [postOrder, if_neg hseq]
  rfl

/-- Settles O28: the post's sequence check either passes it on to the static checks or refuses it. -/
theorem postChecksOrder : Obligations.PostChecksOrder := by
  unfold Obligations.PostChecksOrder
  intro h k body s hm hlive
  have hq := headerSeq_postHeader body
  refine ⟨fun hseq => ?_, fun hseq => ?_⟩
  · rw [exec_post hm hlive, postOrder_match (hq.trans hseq), Order.offered, hq, headerNowait_postHeader]
    rfl
  · rw [exec_post hm hlive, postOrder_mismatch (fun e => hseq (hq.symm.trans e)), sequenceError_eq, Order.offered, hq,
      headerNowait_postHeader]
    rfl

/-! ### Withdraws and retires (R52, R54, R74) -/

/-- Leaving the lists and stopping the timer, record by record. -/
theorem stopHolding_eq (h : HeadIx) (s : State) : stopHolding h s = listsLeft s h := by
  have hfilter : (fun x : HeadIx => x != h) = fun x => decide (x ≠ h) := by
    funext x
    rw [bne, decide_not, beq_eq_decide]
  have hzones := vector_ofFn_getElem_eq_map s.zones fun r => { r with waiters := r.waiters.filter (· ≠ h) }
  have hsockets := vector_ofFn_getElem_eq_map s.socketWaiters fun l => l.filter (· ≠ h)
  simp only [stopHolding, leaveLists, listsLeft, State.setHoldTimer, hfilter]
  rw [← hzones, ← hsockets]

section

variable {h : HeadIx} {k : SlotIx} {s : State}

theorem exec_withdraw (hm : s.mode = .run) (body : BitVec 31) :
    exec (.withdraw h k body) s = .next (headerWithoutPost h k (clearHeader body) s) := by
  refine congrArg Host.Outcome.next ?_
  simp only [writeHeader, hm, headerPost_clearHeader, Bool.false_eq_true, if_false]

/-- RETIRE is the same access as WITHDRAW, taken by another state of the slot (log 9). -/
theorem exec_retire (hm : s.mode = .run) (body : BitVec 31) :
    exec (.retire h k body) s = .next (headerWithoutPost h k (clearHeader body) s) :=
  exec_withdraw hm body

theorem headerWithoutPost_posted (ho : (s.order h k).state = .posted) (w : Word) :
    headerWithoutPost h k w s = refuseOrder h k .withdrawn false (written s (headerAddr h k) w) := by
  simp only [headerWithoutPost, withdrawOrder, ho]
  rfl

theorem headerWithoutPost_held (ho : (s.order h k).state.held = true) (w : Word) :
    headerWithoutPost h k w s =
      refuseOrder h k .withdrawn false (listsLeft (written s (headerAddr h k) w) h) := by
  have hw : headerWithoutPost h k w s = withdrawOrder h k w s := by
    unfold headerWithoutPost
    cases hst : (s.order h k).state with
    | posted | socketWait | zoneWait => rfl
    | _ => rw [hst] at ho; cases ho
  rw [hw, withdrawOrder, ho, ← stopHolding_eq]
  rfl

theorem headerWithoutPost_finished (ho : (s.order h k).state.finished = true) (w : Word) :
    headerWithoutPost h k w s = (written s (headerAddr h k) w).setOrder h k Order.freed := by
  unfold headerWithoutPost
  cases hst : (s.order h k).state with
  | done | refused r | aborted c => rfl
  | _ => rw [hst] at ho; cases ho

theorem headerWithoutPost_open (ho : (s.order h k).state = .free ∨ (s.order h k).state = .filling) (w : Word) :
    headerWithoutPost h k w s = written s (headerAddr h k) w := by
  obtain ho | ho := ho <;> simp only [headerWithoutPost, ho] <;> rfl

end

/-- Settles O30: a header write with POST clear, by the state of the slot. -/
theorem withdrawAndRetire : Obligations.WithdrawAndRetire := by
  unfold Obligations.WithdrawAndRetire
  intro h k body s hm
  refine ⟨fun ho => ?_, fun ho => ?_, fun ho => ?_, fun ho => ?_⟩
  · rw [exec_withdraw hm, headerWithoutPost_posted ho]
    rfl
  · rw [exec_withdraw hm, headerWithoutPost_held ho]
    rfl
  · rw [exec_retire hm, headerWithoutPost_finished ho]
    rfl
  · rw [exec_retire hm, headerWithoutPost_open ho]
    rfl

end Sys2Proof.Machine

/-! The account of units under every step: what the tallies and the OFFLINE heads' nozzles read of the state, how each
operation changes that, and the statement that every step keeps the account balanced. -/

namespace Sys2Proof.Machine

/-! ### What the account of units reads (R101, R125, R135) -/

/-- PICKED and DISCARDED, the sum of DELIVERED, each socket's unit, each nozzle's content, and the heads online. -/
@[ext] structure Account where
  picked : BitVec 32
  discarded : BitVec 32
  delivered : BitVec 32
  socketUnit : SocketIx → Option UnitRec
  nozzle : HeadIx → NozzleId → NozzleContent
  online : HeadIx → Bool

/-- The account of a state. -/
def State.account (s : State) : Account where
  picked := s.picked
  discarded := s.discarded
  delivered := deliveredSum s
  socketUnit i := s.sockets[i].phase.unit
  nozzle h n := (s.nozzle h n).content
  online h := s.heads[h].online

/-- What a place that can carry a unit adds to the number of units carried: 1 for a unit, 0 for none. -/
def weight (u : Option UnitRec) : BitVec 32 := BitVec.ofNat 32 u.toList.length

@[simp] theorem weight_none : weight none = 0 := rfl

@[simp] theorem weight_some (u : UnitRec) : weight (some u) = 1 := rfl

namespace Account

/-- The unit a carrier carries. -/
def unitAt (a : Account) : Carrier → Option UnitRec
  | .socket i => a.socketUnit i
  | .nozzle h n => (a.nozzle h n).unit

/-- The number of units carried, modulo 2^32. -/
def carried (a : Account) : BitVec 32 := (allCarriers.map (weight ∘ a.unitAt)).sum

/-- By how much the units that left the deck and those on it exceed the units picked. -/
def surplus (a : Account) : BitVec 32 := a.delivered + a.discarded + a.carried - a.picked

/-- An OFFLINE head's nozzles are EMPTY (R101). -/
def OfflineEmpty (a : Account) : Prop := ∀ h, a.online h = false → ∀ n, a.nozzle h n = .empty

/-- The tallies balance and OFFLINE heads' nozzles are EMPTY. -/
structure Sound (a : Account) : Prop where
  balanced : a.surplus = 0
  offline : a.OfflineEmpty

/-- The account with unit u in socket i. -/
def setUnit (a : Account) (i : SocketIx) (u : Option UnitRec) : Account :=
  { a with socketUnit := Function.update a.socketUnit i u }

/-- The account with content c in nozzle n of head h. -/
def setNozzle (a : Account) (h : HeadIx) (n : NozzleId) (c : NozzleContent) : Account :=
  { a with nozzle := fun g m => if g = h ∧ m = n then c else a.nozzle g m }

/-- The account with head h online or not. -/
def setOnline (a : Account) (h : HeadIx) (b : Bool) : Account := { a with online := Function.update a.online h b }

/-- The account with unit u, if any, counted as discarded. -/
def discard (a : Account) (u : Option UnitRec) : Account := { a with discarded := a.discarded + weight u }

/-- The account with one unit more picked. -/
def pick (a : Account) : Account := { a with picked := a.picked + 1 }

/-- The account with one unit more delivered. -/
def deliver (a : Account) : Account := { a with delivered := a.delivered + 1 }

end Account

/-! ### The account is what the conditions on units say -/

theorem toList_eq_map_finRange {α : Type} {n : Nat} (v : Vector α n) :
    v.toList = (List.finRange n).map fun i => v[i] := by
  apply List.ext_getElem <;> simp

/-- The units carried are those of the 24 carriers (R125). -/
theorem carriedUnits_eq_filterMap (s : State) : carriedUnits s = allCarriers.filterMap (unitAt s) := by
  have hsockets : socketUnits s = (all16.map Carrier.socket).filterMap (unitAt s) := by
    rw [socketUnits, toList_eq_map_finRange, List.filterMap_map, List.filterMap_map]
    rfl
  have hnozzle : ∀ x : Option UnitRec, ∀ y : Option UnitRec, [x, y].filterMap id = x.toList ++ y.toList := by
    rintro (_ | x) (_ | y) <;> rfl
  have hnozzles : nozzleUnits s =
      (allHeads.flatMap fun h => [Carrier.nozzle h .a, Carrier.nozzle h .b]).filterMap (unitAt s) := by
    rw [nozzleUnits, toList_eq_map_finRange, List.flatMap_map, List.filterMap_flatMap]
    refine List.flatMap_congr fun h _ => ?_
    exact (hnozzle _ _).symm
  rw [carriedUnits, hsockets, hnozzles, ← List.filterMap_append]
  rfl

theorem ofNat_length_filterMap {α : Type} (f : α → Option UnitRec) (l : List α) :
    BitVec.ofNat 32 (l.filterMap f).length = (l.map (weight ∘ f)).sum := by
  induction l with
  | nil => rfl
  | cons c rest ih =>
    rw [List.map_cons, List.sum_cons, Function.comp_apply, ← ih]
    cases hc : f c with
    | none => simp [hc]
    | some u => simp [hc, BitVec.ofNat_add, add_comm]

theorem carried_account (s : State) : s.account.carried = BitVec.ofNat 32 (unitsCarried s) := by
  rw [unitsCarried, carriedUnits_eq_filterMap, ofNat_length_filterMap]
  refine congrArg List.sum (List.map_congr_left fun c _ => ?_)
  cases c <;> rfl

theorem account_sound_iff (s : State) : s.account.Sound ↔ OfflineEmpty s ∧ TalliesBalance s := by
  have hbalance : s.account.surplus = 0 ↔ TalliesBalance s := by
    rw [Account.surplus, sub_eq_zero, carried_account]
    exact eq_comm
  have hoffline : s.account.OfflineEmpty ↔ OfflineEmpty s := by
    refine forall_congr' fun h => imp_congr_right fun _ => ⟨fun hn => ⟨hn .a, hn .b⟩, fun ⟨ha, hb⟩ n => ?_⟩
    cases n
    · exact ha
    · exact hb
  exact ⟨fun ⟨hb, ho⟩ => ⟨hoffline.mp ho, hbalance.mp hb⟩, fun ⟨ho, hb⟩ => ⟨hbalance.mpr hb, hoffline.mpr ho⟩⟩

/-! ### Changes of the account -/

theorem mem_allCarriers (c : Carrier) : c ∈ allCarriers := by
  cases c with
  | socket i => fin_cases i <;> simp [allCarriers, all16]
  | nozzle h n => fin_cases h <;> cases n <;> simp [allCarriers, allHeads]

theorem allCarriers_nodup : allCarriers.Nodup := by decide

/-- A sum over a list without repeats after one term changed. -/
theorem sum_map_update {α : Type} [DecidableEq α] (f : α → BitVec 32) {c : α} (x : BitVec 32) {l : List α}
    (hl : l.Nodup) (hc : c ∈ l) : (l.map (Function.update f c x)).sum = (l.map f).sum + (x - f c) := by
  induction l with
  | nil => cases hc
  | cons d rest ih =>
    obtain ⟨hd, hrest⟩ := List.nodup_cons.mp hl
    rw [List.map_cons, List.map_cons, List.sum_cons, List.sum_cons]
    obtain rfl | hc := List.mem_cons.mp hc
    · have hsame : rest.map (Function.update f c x) = rest.map f :=
        List.map_congr_left fun e he => Function.update_of_ne (ne_of_mem_of_not_mem he hd) _ _
      rw [hsame, Function.update_self]
      ring
    · rw [ih hrest hc, Function.update_of_ne (ne_of_mem_of_not_mem hc hd).symm]
      ring

namespace Account

variable {a b : Account} {h : HeadIx} {n : NozzleId} {i : SocketIx}

@[simp] theorem setNozzle_online (a : Account) (h : HeadIx) (n : NozzleId) (c : NozzleContent) :
    (a.setNozzle h n c).online = a.online := rfl

@[simp] theorem setNozzle_socketUnit (a : Account) (h : HeadIx) (n : NozzleId) (c : NozzleContent) :
    (a.setNozzle h n c).socketUnit = a.socketUnit := rfl

theorem setUnit_same {u : Option UnitRec} (hu : a.socketUnit i = u) : a.setUnit i u = a := by
  rw [setUnit, ← hu, Function.update_eq_self]

theorem setNozzle_same {c : NozzleContent} (hc : a.nozzle h n = c) : a.setNozzle h n c = a := by
  have hnozzle : (fun g m => if g = h ∧ m = n then c else a.nozzle g m) = a.nozzle := by
    funext g m
    split_ifs with hgm
    · obtain ⟨rfl, rfl⟩ := hgm
      exact hc.symm
    · rfl
  rw [setNozzle, hnozzle]

theorem setOnline_same {o : Bool} (ho : a.online h = o) : a.setOnline h o = a := by
  rw [setOnline, ← ho, Function.update_eq_self]

theorem carried_of_update {c : Carrier} {u : Option UnitRec} (hunit : b.unitAt = Function.update a.unitAt c u) :
    b.carried = a.carried + (weight u - weight (a.unitAt c)) := by
  unfold carried
  rw [hunit, Function.comp_update]
  rw [sum_map_update _ _ allCarriers_nodup (mem_allCarriers c), Function.comp_apply]

/-- A socket's change of unit moves the surplus by what it adds to the units carried. -/
theorem surplus_setUnit (a : Account) (i : SocketIx) (u : Option UnitRec) :
    (a.setUnit i u).surplus = a.surplus + (weight u - weight (a.socketUnit i)) := by
  have hunit : (a.setUnit i u).unitAt = Function.update a.unitAt (.socket i) u := by
    funext c
    cases c <;> simp [unitAt, setUnit, Function.update_apply]
  rw [surplus, carried_of_update hunit, surplus]
  simp only [setUnit, unitAt]
  ring

/-- A nozzle's change of content moves the surplus by what it adds to the units carried. -/
theorem surplus_setNozzle (a : Account) (h : HeadIx) (n : NozzleId) (c : NozzleContent) :
    (a.setNozzle h n c).surplus = a.surplus + (weight c.unit - weight (a.nozzle h n).unit) := by
  have hunit : (a.setNozzle h n c).unitAt = Function.update a.unitAt (.nozzle h n) c.unit := by
    funext d
    cases d with
    | socket i => simp [unitAt, setNozzle]
    | nozzle g m =>
      simp only [unitAt, setNozzle, Function.update_apply, Carrier.nozzle.injEq]
      split_ifs <;> rfl
  rw [surplus, carried_of_update hunit, surplus]
  simp only [setNozzle, unitAt]
  ring

theorem surplus_discard (a : Account) (u : Option UnitRec) : (a.discard u).surplus = a.surplus + weight u := by
  show a.delivered + (a.discarded + weight u) + a.carried - a.picked = a.surplus + weight u
  rw [surplus]
  ring

theorem surplus_pick (a : Account) : a.pick.surplus = a.surplus - 1 := by
  show a.delivered + a.discarded + a.carried - (a.picked + 1) = a.surplus - 1
  rw [surplus]
  ring

theorem surplus_deliver (a : Account) : a.deliver.surplus = a.surplus + 1 := by
  show a.delivered + 1 + a.discarded + a.carried - a.picked = a.surplus + 1
  rw [surplus]
  ring

/-- Only an online head's nozzles take a content. -/
theorem OfflineEmpty.setNozzle (ha : a.OfflineEmpty) (honline : a.online h = true) (n : NozzleId) (c : NozzleContent) :
    (a.setNozzle h n c).OfflineEmpty := by
  intro g hg m
  have hne : g ≠ h := by
    rintro rfl
    rw [setNozzle_online, honline] at hg
    cases hg
  exact (if_neg fun hgm => hne hgm.1).trans (ha g hg m)

/-- A socket's unit may be changed for another. -/
theorem Sound.setUnit (ha : a.Sound) {u : Option UnitRec} (hweight : weight u = weight (a.socketUnit i)) :
    (a.setUnit i u).Sound := by
  refine ⟨?_, ha.offline⟩
  rw [surplus_setUnit, ha.balanced, hweight, sub_self, add_zero]

/-- An online head's nozzle may change its content, but for whether it carries a unit. -/
theorem Sound.setNozzle (ha : a.Sound) (honline : a.online h = true) {c : NozzleContent}
    (hweight : weight c.unit = weight (a.nozzle h n).unit) : (a.setNozzle h n c).Sound := by
  refine ⟨?_, ha.offline.setNozzle honline n c⟩
  rw [surplus_setNozzle, ha.balanced, hweight, sub_self, add_zero]

/-- A socket's unit may be discarded. -/
theorem Sound.discardSocket (ha : a.Sound) {u : Option UnitRec} (hu : a.socketUnit i = u) :
    ((a.discard u).setUnit i none).Sound := by
  refine ⟨?_, ha.offline⟩
  have hunit : (a.discard u).socketUnit i = u := hu
  rw [surplus_setUnit, surplus_discard, ha.balanced, hunit, weight_none]
  ring

/-- An online head's nozzle may discard what it carries. -/
theorem Sound.discardNozzle (ha : a.Sound) (honline : a.online h = true) :
    ((a.setNozzle h n .empty).discard (a.nozzle h n).unit).Sound := by
  refine ⟨?_, ha.offline.setNozzle honline n _⟩
  rw [surplus_discard, surplus_setNozzle, ha.balanced, NozzleContent.unit, weight_none]
  ring

/-- A head may come online, and go offline with its nozzles EMPTY. -/
theorem Sound.setOnline (ha : a.Sound) {o : Bool} (hempty : o = false → ∀ n, a.nozzle h n = .empty) :
    (a.setOnline h o).Sound := by
  refine ⟨ha.balanced, fun g hg n => ?_⟩
  simp only [Account.setOnline, Function.update_apply] at hg
  split_ifs at hg with hgh
  · exact hgh ▸ hempty hg n
  · exact ha.offline g hg n

end Account

/-! ### The account after each operation -/

/-- Where the tallies, the sockets and the nozzles stay, and each head's online, the account stays. -/
theorem account_of_fields {s t : State} (hpicked : t.picked = s.picked) (hdiscarded : t.discarded = s.discarded)
    (hdelivered : t.delivered = s.delivered) (hsockets : t.sockets = s.sockets) (hnozzles : t.nozzles = s.nozzles)
    (honline : ∀ h : HeadIx, t.heads[h].online = s.heads[h].online) : t.account = s.account := by
  unfold State.account deliveredSum State.nozzle
  simp only [hpicked, hdiscarded, hdelivered, hsockets, hnozzles, honline]

theorem account_setSocket (i : SocketIx) (x : Socket) (s : State) :
    (s.setSocket i x).account = s.account.setUnit i x.phase.unit := by
  ext1
  case socketUnit =>
    funext j
    simp only [State.account, Account.setUnit, State.setSocket, getElem_set_fin, Function.update_apply]
    split_ifs <;> rfl
  all_goals rfl

/-- A socket record changed, but for its unit, leaves the account. -/
theorem account_setSocket_same {i : SocketIx} {x : Socket} {s : State} (hx : x.phase.unit = s.sockets[i].phase.unit) :
    (s.setSocket i x).account = s.account :=
  (account_setSocket i x s).trans (Account.setUnit_same hx.symm)

theorem account_setNozzle (h : HeadIx) (n : NozzleId) (x : Nozzle) (s : State) :
    (s.setNozzle h n x).account = s.account.setNozzle h n x.content := by
  ext1
  case nozzle =>
    funext g m
    simp only [State.account, Account.setNozzle, State.nozzle_setNozzle]
    split_ifs <;> rfl
  all_goals rfl

theorem account_setHead (h : HeadIx) (x : HeadRec) (s : State) :
    (s.setHead h x).account = s.account.setOnline h x.online := by
  ext1
  case online =>
    funext g
    simp only [State.account, Account.setOnline, State.setHead, getElem_set_fin, Function.update_apply]
    split_ifs <;> rfl
  all_goals rfl

/-- A head record changed, but for whether the head is online, leaves the account. -/
theorem account_setHead_same {h : HeadIx} {x : HeadRec} {s : State} (hx : x.online = s.heads[h].online) :
    (s.setHead h x).account = s.account :=
  (account_setHead h x s).trans (Account.setOnline_same hx.symm)

@[simp] theorem account_setOrder (h : HeadIx) (k : SlotIx) (o : Order) (s : State) :
    (s.setOrder h k o).account = s.account := rfl
@[simp] theorem account_setZone (z : ZoneIx) (r : ZoneRec) (s : State) : (s.setZone z r).account = s.account := rfl
@[simp] theorem account_setHoldTimer (h : HeadIx) (x : HoldTimer) (s : State) :
    (s.setHoldTimer h x).account = s.account := rfl
@[simp] theorem account_setFetchIndex (h : HeadIx) (k : SlotIx) (s : State) :
    (s.setFetchIndex h k).account = s.account := rfl
@[simp] theorem account_setExpectedSeq (h : HeadIx) (q : Seq) (s : State) :
    (s.setExpectedSeq h q).account = s.account := rfl
@[simp] theorem account_setPointer (h : HeadIx) (n : NozzleId) (s : State) :
    (s.setPointer h n).account = s.account := rfl
@[simp] theorem account_setCounters (h : HeadIx) (c : HeadCounters) (s : State) :
    (s.setCounters h c).account = s.account := rfl
@[simp] theorem account_grant (src : Source) (s : State) : (s.grant src).account = s.account := rfl
@[simp] theorem account_passWrite (src : Source) (a : Nat) (w : Word) (s : State) :
    (passWrite src a w s).account = s.account := rfl
@[simp] theorem account_returnWord (src : Source) (w : Word) (s : State) :
    (returnWord src w s).account = s.account := by
  cases src <;> rfl
@[simp] theorem account_answer (h : HeadIx) (w : Word) (s : State) : (answer h w s).account = s.account := rfl
@[simp] theorem account_advanceFetch (h : HeadIx) (s : State) : (advanceFetch h s).account = s.account := rfl
@[simp] theorem account_pendTags (l : List Tag) (s : State) : (pendTags l s).account = s.account := rfl
@[simp] theorem account_unpendTags (l : List Tag) (s : State) : (unpendTags l s).account = s.account := rfl
@[simp] theorem account_countDiscards (u : Option UnitRec) (s : State) :
    (countDiscards u.toList.length s).account = s.account.discard u := rfl
@[simp] theorem account_refuseOrder (h : HeadIx) (k : SlotIx) (r : Reason) (skip : Bool) (s : State) :
    (refuseOrder h k r skip s).account = s.account := rfl
@[simp] theorem account_setOrderState (h : HeadIx) (k : SlotIx) (st : OrderState) (s : State) :
    (setOrderState h k st s).account = s.account := rfl
@[simp] theorem account_setCompleted (h : HeadIx) (k : SlotIx) (n : Nat) (s : State) :
    (setCompleted h k n s).account = s.account := rfl

@[simp] theorem account_stopHolding (h : HeadIx) (s : State) : (stopHolding h s).account = s.account := by
  unfold State.account State.nozzle deliveredSum stopHolding leaveLists State.setHoldTimer
  dsimp only

@[simp] theorem account_releaseBut (h : HeadIx) (keep : List ZoneIx) (s : State) :
    (releaseBut h keep s).account = s.account := by
  unfold State.account State.nozzle deliveredSum releaseBut
  dsimp only

@[simp] theorem account_dropReservationsBut (h : HeadIx) (k : SlotIx) (keep : List SocketIx) (s : State) :
    (dropReservationsBut h k keep s).account = s.account := by
  ext1
  case socketUnit =>
    funext i
    simp only [State.account, dropReservationsBut_socket]
    split_ifs <;> rfl
  all_goals dsimp only [State.account, State.nozzle, deliveredSum, dropReservationsBut]

@[simp] theorem account_captureFault (f : FaultReport) (s : State) : (captureFault f s).account = s.account := by
  have hf := captureFault_only f s
  exact account_of_fields hf.picked hf.discarded hf.delivered hf.sockets hf.nozzles fun h => by rw [hf.heads]

/-! ### Head records: causes and stray source sets -/

@[simp] theorem account_giveCause (c : Cause) (h : HeadIx) (s : State) : (giveCause c h s).account = s.account :=
  account_setHead_same rfl

@[simp] theorem account_giveCauseOnline (c : Cause) (h : HeadIx) (s : State) :
    (giveCauseOnline c h s).account = s.account := by
  unfold giveCauseOnline
  split_ifs
  · exact account_giveCause c h s
  · rfl

theorem account_mapHeadsConcerned {f : HeadRec → HeadRec} (hf : ∀ r, (f r).online = r.online) (l : Line) (s : State) :
    (mapHeadsConcerned l f s).account = s.account := by
  refine account_of_fields rfl rfl rfl rfl rfl fun h => ?_
  simp only [mapHeadsConcerned, getElem_ofFn_fin]
  split_ifs
  · exact hf _
  · rfl

@[simp] theorem account_dropOpenEntries (l : Line) (s : State) : (dropOpenEntries l s).account = s.account :=
  account_mapHeadsConcerned (fun r => (r.withoutOpen_duty l).1) l s

@[simp] theorem account_faultOpenEntries (l : Line) (s : State) : (faultOpenEntries l s).account = s.account :=
  account_mapHeadsConcerned (fun r => (r.openFaulted_duty l).1) l s

@[simp] theorem account_chargeOpen (l : Line) (s : State) : (chargeOpen l s).account = s.account := by
  unfold chargeOpen
  split
  · exact account_setHead_same rfl
  · rfl

@[simp] theorem account_chargeFaulted (l : Line) (s : State) : (chargeFaulted l s).account = s.account := by
  unfold chargeFaulted
  split
  · exact account_setHead_same rfl
  · rfl

/-! ### Sockets, nozzles and lines -/

@[simp] theorem account_setContent (h : HeadIx) (n : NozzleId) (c : NozzleContent) (s : State) :
    (setContent h n c s).account = s.account.setNozzle h n c := account_setNozzle h n _ s

@[simp] theorem account_setSensor (l : Line) (x : Sensor) (s : State) : (setSensor l x s).account = s.account := by
  cases l with
  | presence i => exact account_setSocket_same rfl
  | grip h n => exact (account_setNozzle h n _ s).trans (Account.setNozzle_same rfl)

@[simp] theorem account_quietLine (l : Line) (s : State) : (quietLine l s).account = s.account :=
  (account_dropOpenEntries l _).trans (account_setSensor l .quiet s)

@[simp] theorem account_disturbLine (l : Line) (s : State) : (disturbLine l s).account = s.account :=
  (account_chargeOpen l _).trans (account_setSensor l _ s)

@[simp] theorem account_compareLine (l : Line) (s : State) : (compareLine l s).account = s.account := by
  unfold compareLine
  split
  · split
    · rfl
    · exact account_quietLine l s
  · split_ifs
    · split
      · exact account_setSensor l _ s
      · rfl
    · split
      · rfl
      · exact account_disturbLine l s

/-- An operation that keeps a reading of the state keeps it over a whole list. -/
theorem foldl_keeps {α β : Type} (g : State → β) {f : State → α → State} (hf : ∀ t a, g (f t a) = g t) (l : List α)
    (s : State) : g (l.foldl f s) = g s := by
  induction l generalizing s with
  | nil => rfl
  | cons a rest ih => exact (ih _).trans (hf s a)

@[simp] theorem account_compareLines (ls : List Line) (s : State) : (compareLines ls s).account = s.account :=
  foldl_keeps State.account (fun t l => account_compareLine l t) ls s

@[simp] theorem account_changePhase (i : SocketIx) (p : Phase) (s : State) :
    (changePhase i p s).account = s.account.setUnit i p.unit := by
  unfold changePhase
  dsimp only
  split_ifs
  · exact account_setSocket i _ s
  · exact (account_quietLine _ _).trans (account_setSocket i _ s)

/-- A socket's change of state that keeps its unit leaves the account. -/
theorem account_changePhase_same {i : SocketIx} {p : Phase} {s : State} (hp : s.sockets[i].phase.unit = p.unit) :
    (changePhase i p s).account = s.account :=
  (account_changePhase i p s).trans (Account.setUnit_same hp)

@[simp] theorem account_commandPhase (i : SocketIx) (p : Phase) (s : State) :
    (commandPhase i p s).account = s.account.setUnit i p.unit :=
  (account_compareLine _ _).trans (account_changePhase i p s)

/-! ### Line events and expiries -/

theorem account_setFilter (l : Line) (f : LineFilter) (s : State) : (setFilter l f s).account = s.account := by
  cases l <;> rfl

/-- The seat rule and the vacate rule keep the socket's unit (R118, R120). -/
theorem account_seatVacate (i : SocketIx) (level : Bool) (s : State) : (seatVacate i level s).account = s.account := by
  unfold seatVacate
  split
  next hp => exact account_changePhase_same (by rw [hp]; rfl)
  next hp => exact account_changePhase_same (by rw [hp]; rfl)
  next => rfl

theorem account_takeLevelChange (l : Line) (s : State) : (takeLevelChange l s).account = s.account := by
  have hown : ∀ level t, (ownerOnChange l level t).account = t.account := by
    intro level t
    cases l with
    | presence i => exact account_seatVacate i level t
    | grip h n => rfl
  unfold takeLevelChange
  dsimp only
  split_ifs
  · rw [account_compareLine, hown, account_setFilter]
  · rfl

theorem account_takeHoldExpiry (h : HeadIx) (s : State) : (takeHoldExpiry h s).account = s.account := by
  unfold takeHoldExpiry
  dsimp only
  split_ifs
  · rw [account_refuseOrder, account_stopHolding]
  · exact account_stopHolding h s
  · rfl

theorem account_takeSeatExpiry (i : SocketIx) (s : State) : (takeSeatExpiry i s).account = s.account := by
  unfold takeSeatExpiry
  split
  next hp =>
    rw [account_captureFault, account_giveCauseOnline]
    exact account_changePhase_same (by rw [hp]; rfl)
  next => rfl

theorem account_takeVacateExpiry (i : SocketIx) (s : State) : (takeVacateExpiry i s).account = s.account := by
  unfold takeVacateExpiry
  split
  next hp =>
    rw [account_captureFault, account_giveCauseOnline]
    exact account_changePhase_same (by rw [hp]; rfl)
  next => rfl

/-- A line fault leaves the socket its unit (R122). -/
theorem account_socketLineFault (i : SocketIx) (s : State) : (socketLineFault i s).account = s.account := by
  have hfault : ∀ r u f, s.sockets[i].phase.unit = u →
      (captureFault f (changePhase i (.fault r u) s)).account = s.account := fun r u f hu =>
    (account_captureFault f _).trans (account_changePhase_same hu)
  unfold socketLineFault
  dsimp only
  split
  next hp => exact hfault _ _ _ (by rw [hp]; rfl)
  next hp => exact hfault _ _ _ (by rw [hp]; rfl)
  next hp => exact hfault _ _ _ (by rw [hp]; rfl)
  next hp => exact hfault _ _ _ (by rw [hp]; rfl)
  next => rfl

/-- A line fault leaves the nozzle its unit, the nozzle now being SUSPECT (R150). -/
theorem nozzleLineFault_account_sound {h : HeadIx} {n : NozzleId} {s : State} (hs : s.account.Sound)
    (honline : s.heads[h].online = true) : (nozzleLineFault h n s).account.Sound := by
  have hfault : ∀ u f, (s.nozzle h n).content.unit = u →
      (captureFault f (setContent h n (.suspect u) s)).account.Sound := by
    intro u f hu
    rw [account_captureFault, account_setContent]
    exact hs.setNozzle honline (congrArg weight hu.symm)
  unfold nozzleLineFault
  dsimp only
  split
  next hc => exact hfault _ _ (by rw [hc]; rfl)
  next hc => exact hfault _ _ (by rw [hc]; rfl)
  next => exact hs

/-- A disturbance timer runs out on a grip line of an online head only (R142). -/
theorem online_of_disturbDue {h : HeadIx} {n : NozzleId} {s : State} (hd : disturbDue s (.grip h n) = true) :
    s.heads[h].online = true := by
  cases honline : s.heads[h].online with
  | true => rfl
  | false =>
    simp only [disturbDue, watchedLevel, expectedLevel, honline, Bool.not_false, if_true, ite_self, Option.isSome_none,
      Bool.false_and] at hd
    cases hd

theorem takeDisturbExpiry_account_sound (l : Line) {s : State} (hs : s.account.Sound) :
    (takeDisturbExpiry l s).account.Sound := by
  unfold takeDisturbExpiry
  split_ifs with hdue
  · have hcharged : (chargeFaulted l (faultOpenEntries l s)).account = s.account := by
      rw [account_chargeFaulted, account_faultOpenEntries]
    rw [account_compareLine]
    cases l with
    | presence i =>
      rw [ownerFault, account_socketLineFault, hcharged]
      exact hs
    | grip h n =>
      have honline := congrArg (fun a => a.online h) hcharged
      exact nozzleLineFault_account_sound (hcharged.symm ▸ hs) (honline.trans (online_of_disturbDue hdue))
  · exact hs

theorem account_takeRecoverExpiry (l : Line) (s : State) : (takeRecoverExpiry l s).account = s.account := by
  unfold takeRecoverExpiry
  split_ifs
  · exact account_quietLine l s
  · rfl

theorem takeEvent_account_sound (e : TimedEvent) {s : State} (hs : s.account.Sound) :
    (takeEvent e s).account.Sound := by
  cases e with
  | level l => exact account_takeLevelChange l s ▸ hs
  | hold h => exact account_takeHoldExpiry h s ▸ hs
  | seat i => exact account_takeSeatExpiry i s ▸ hs
  | vacate i => exact account_takeVacateExpiry i s ▸ hs
  | disturb l => exact takeDisturbExpiry_account_sound l hs
  | recover l => exact account_takeRecoverExpiry l s ▸ hs

theorem settleFor_account_sound (n : Nat) {s : State} (hs : s.account.Sound) : (settleFor n s).account.Sound := by
  induction n generalizing s with
  | zero => exact hs
  | succ n ih =>
    unfold settleFor
    split
    · exact hs
    · exact ih (takeEvent_account_sound _ hs)

theorem Phase.unit_tick (p : Phase) : p.tick.unit = p.unit := by
  cases p <;> rfl

theorem account_sampleTick (p : BitVec 16) (g : BitVec 8) (s : State) : (sampleTick p g s).account = s.account := by
  ext1
  case socketUnit =>
    funext i
    simp only [State.account, sampleTick, getElem_ofFn_fin, Socket.tick, Phase.unit_tick]
  case nozzle =>
    funext h n
    simp only [State.account, sampleTick, State.nozzle, getElem_ofFn_fin]
    cases n <;> rfl
  all_goals rfl

theorem tickWith_account_sound (p : BitVec 16) (g : BitVec 8) {s : State} (hs : s.account.Sound) :
    (tickWith p g s).account.Sound := by
  rw [tickWith, account_sampleTick]
  exact settleFor_account_sound 128 hs

theorem portClock_account_sound {s : State} (hs : s.account.Sound) : (portClock s).account.Sound := by
  have hsettled : (settle s).account.Sound := settleFor_account_sound 128 hs
  unfold portClock
  dsimp only
  split_ifs
  · exact hsettled
  · rw [account_sampleTick]
    exact hsettled

/-! ### Fetches (R59 to R77) -/

@[simp] theorem account_joinSockets (h : HeadIx) (l : List SocketIx) (s : State) :
    (joinSockets h l s).account = s.account :=
  foldl_keeps State.account (f := fun t i => joinSocketList h i t) (fun _ _ => rfl) l s

@[simp] theorem account_joinZones (h : HeadIx) (l : List ZoneIx) (s : State) :
    (joinZones h l s).account = s.account := by
  refine foldl_keeps State.account (fun t z => ?_) l s
  unfold joinZoneList
  split_ifs <;> rfl

@[simp] theorem account_claimZones (h : HeadIx) (l : List ZoneIx) (s : State) :
    (claimZones h l s).account = s.account :=
  foldl_keeps State.account (f := fun t z => claimZone h z t) (fun _ _ => rfl) l s

@[simp] theorem account_reserveSockets (h : HeadIx) (k : SlotIx) (l : List SocketIx) (s : State) :
    (reserveSockets h k l s).account = s.account :=
  foldl_keeps State.account (f := fun t i => reserveSocket h k i t) (fun _ _ => account_setSocket_same rfl) l s

section

variable (h : HeadIx) (k : SlotIx) (s : State)

@[simp] theorem account_refuseAtFetch (r : Reason) : (refuseAtFetch h k r s).account = s.account := by
  simp only [refuseAtFetch, account_answer, account_advanceFetch, account_refuseOrder, account_stopHolding]

@[simp] theorem account_keepHeld : (keepHeld h k s).account = s.account := rfl

@[simp] theorem account_enterHeld (st : OrderState) (fromPosted : Bool) :
    (enterHeld h k st fromPosted s).account = s.account := by
  have hend : ∀ t : State,
      (if waitCycle t then refuseAtFetch h k .deadlock t else keepHeld h k t).account = t.account := by
    intro t
    by_cases hc : waitCycle t = true
    · rw [if_pos hc, account_refuseAtFetch]
    · rw [if_neg hc, account_keepHeld]
  unfold enterHeld
  dsimp only
  rw [hend]
  cases fromPosted <;> rfl

@[simp] theorem account_clearOrder (legs : List Leg) : (clearOrder h k legs s).account = s.account := by
  simp only [clearOrder, account_answer, account_compareLines, account_setOrder, account_pendTags, account_stopHolding,
    account_reserveSockets, account_claimZones]

@[simp] theorem account_zoneStage (legs : List Leg) : (zoneStage h k legs s).account = s.account := by
  unfold zoneStage
  dsimp only
  split_ifs
  · exact account_refuseAtFetch h k s _
  · exact account_keepHeld h k s
  · rw [account_enterHeld, account_joinZones]
  · exact account_clearOrder h k s legs

@[simp] theorem account_evaluate : (evaluate h k s).account = s.account := by
  unfold evaluate
  dsimp only
  split
  · exact account_refuseAtFetch h k s _
  · split_ifs
    · exact account_refuseAtFetch h k s _
    · exact account_keepHeld h k s
    · rw [account_enterHeld, account_joinSockets]
    · exact account_zoneStage h k s _

@[simp] theorem account_fetchLive : (fetchLive h k s).account = s.account := by
  unfold fetchLive
  split_ifs
  · rfl
  · rfl
  · rfl
  · exact account_evaluate h k s

theorem account_passOver (r : Reason) : (passOver h k r s).account = s.account := by
  unfold passOver
  split_ifs <;> rfl

theorem account_fetchAtIndex : (fetchAtIndex h k s).account = s.account := by
  unfold fetchAtIndex
  cases (s.order h k).state
  case free | filling | done | aborted | cleared => rfl
  case refused r => exact account_passOver h k s r
  case posted | socketWait | zoneWait => exact account_fetchLive h k s

theorem account_fetchOutOfOrder : (fetchOutOfOrder h k s).account = s.account := by
  rw [fetchOutOfOrder, account_answer, account_captureFault]
  rfl

/-- A fetch moves no unit. -/
theorem account_fetchHeader : (fetchHeader h k s).account = s.account := by
  unfold fetchHeader
  dsimp only
  split_ifs
  · rfl
  · exact account_fetchAtIndex h k _
  · exact account_fetchOutOfOrder h k _

end

/-! ### Reports (R84 to R98) -/

@[simp] theorem account_createUnit (h : HeadIx) (n : NozzleId) (t : Tag) (s : State) :
    (createUnit h n t s).account = (s.account.setNozzle h n (.holding (newUnit t))).pick :=
  congrArg Account.pick (account_setContent h n (.holding (newUnit t)) s)

@[simp] theorem account_unpendTag (t : Tag) (s : State) : (unpendTag t s).account = s.account := rfl

@[simp] theorem account_pickTaken (i : SocketIx) (h : HeadIx) (s : State) :
    (pickTaken i h s).account = s.account.setUnit i none := by
  rw [pickTaken, account_changePhase]
  split_ifs <;> rfl

@[simp] theorem account_pickMissed (i : SocketIx) (s : State) : (pickMissed i s).account = s.account :=
  account_changePhase_same rfl

@[simp] theorem account_unitPlaced (i : SocketIx) (h : HeadIx) (u : UnitRec) (s : State) :
    (unitPlaced i h u s).account = s.account.setUnit i (some u) := by
  rw [unitPlaced, account_changePhase]
  split_ifs <;> rfl

@[simp] theorem account_placeMissed (i : SocketIx) (s : State) : (placeMissed i s).account = s.account := by
  unfold placeMissed
  split
  next => rfl
  next hp => exact account_changePhase_same (by rw [hp]; rfl)
  next => exact account_changePhase_same rfl

theorem mem_allClasses : ∀ c : ClassIx, c ∈ allClasses := by decide

@[simp] theorem account_countDelivery (c : ClassIx) (s : State) :
    (countDelivery c s).account = s.account.deliver := by
  have hsum : deliveredSum (countDelivery c s) = deliveredSum s + 1 := by
    have hset : ∀ d : ClassIx, (countDelivery c s).delivered[d] =
        Function.update (fun d : ClassIx => s.delivered[d]) c (s.delivered[c] + 1) d := fun d => by
      rw [countDelivery, getElem_set_fin, Function.update_apply]
    have hfold : ∀ t : State, deliveredSum t = (allClasses.map fun d => t.delivered[d]).sum := fun t => by
      rw [deliveredSum, List.sum_eq_foldl, List.foldl_map]
    rw [hfold, hfold, List.map_congr_left fun d _ => hset d,
      sum_map_update _ _ (by decide : allClasses.Nodup) (mem_allClasses c)]
    ring
  ext1
  case delivered => exact hsum
  all_goals rfl

namespace Account

variable {a : Account} {h : HeadIx} {n : NozzleId} {i : SocketIx}

/-- A unit created on an EMPTY nozzle counts as picked (R126). -/
theorem Sound.create (ha : a.Sound) (honline : a.online h = true) (hempty : a.nozzle h n = .empty) (u : UnitRec) :
    (a.setNozzle h n (.holding u)).pick.Sound := by
  refine ⟨?_, ha.offline.setNozzle honline n _⟩
  rw [surplus_pick, surplus_setNozzle, ha.balanced, hempty, NozzleContent.unit, NozzleContent.unit, weight_some,
    weight_none]
  ring

/-- A socket's unit may move to an EMPTY nozzle. -/
theorem Sound.take (ha : a.Sound) (honline : a.online h = true) (hempty : a.nozzle h n = .empty) {u : UnitRec}
    (hunit : a.socketUnit i = some u) : ((a.setNozzle h n (.holding u)).setUnit i none).Sound := by
  refine ⟨?_, ha.offline.setNozzle honline n _⟩
  rw [surplus_setUnit, surplus_setNozzle, ha.balanced, setNozzle_socketUnit, hempty, hunit, NozzleContent.unit,
    NozzleContent.unit, weight_some, weight_none]
  ring

/-- A nozzle's unit may move to a socket without one. -/
theorem Sound.place (ha : a.Sound) (honline : a.online h = true) {u : UnitRec} (hholds : a.nozzle h n = .holding u)
    (hfree : a.socketUnit i = none) (v : UnitRec) : ((a.setNozzle h n .empty).setUnit i (some v)).Sound := by
  refine ⟨?_, ha.offline.setNozzle honline n _⟩
  rw [surplus_setUnit, surplus_setNozzle, ha.balanced, setNozzle_socketUnit, hholds, hfree, NozzleContent.unit,
    NozzleContent.unit, weight_some, weight_none, weight_some]
  ring

/-- A nozzle's unit may leave the deck as delivered (R129). -/
theorem Sound.deliverUnit (ha : a.Sound) (honline : a.online h = true) {u : UnitRec}
    (hholds : a.nozzle h n = .holding u) : (a.setNozzle h n .empty).deliver.Sound := by
  refine ⟨?_, ha.offline.setNozzle honline n _⟩
  rw [surplus_deliver, surplus_setNozzle, ha.balanced, hholds, NozzleContent.unit, NozzleContent.unit, weight_some,
    weight_none]
  ring

end Account

section

variable {h : HeadIx} {s : State} (hs : s.account.Sound) (honline : s.heads[h].online = true)
include hs honline

theorem pickInput_account_sound (n : NozzleId) (l : Leg) : (pickInput h n l s).1.account.Sound := by
  unfold pickInput
  dsimp only
  split
  next => exact hs
  next => exact hs
  next hempty _ =>
    rw [account_createUnit, account_unpendTag]
    exact hs.create honline hempty _
  next => exact hs

theorem pickSite_account_sound (n : NozzleId) (i : SocketIx) : (pickSite h n i s).1.account.Sound := by
  unfold pickSite
  split
  next => exact account_pickMissed i s ▸ hs
  next => exact account_pickMissed i s ▸ hs
  next hempty _ =>
    split
    next u hunit =>
      rw [account_pickTaken, account_setContent]
      exact hs.take honline hempty hunit
    next => exact hs
  next => exact hs

theorem placeUnit_account_sound (n : NozzleId) (i : SocketIx) : (placeUnit h n i s).account.Sound := by
  unfold placeUnit
  split
  next u hholds hphase =>
    rw [account_unitPlaced, account_setContent]
    exact hs.place honline hholds (congrArg Phase.unit hphase) _
  next => exact hs

theorem placeSite_account_sound (n : NozzleId) (i : SocketIx) : (placeSite h n i s).1.account.Sound := by
  unfold placeSite
  split_ifs
  · exact account_placeMissed i s ▸ hs
  · exact account_placeMissed i s ▸ hs
  · exact hs
  · exact account_placeMissed i s ▸ hs
  · exact placeUnit_account_sound hs honline n i

theorem deliverUnit_account_sound (n : NozzleId) : (deliverUnit h n s).account.Sound := by
  unfold deliverUnit
  split
  next u hholds =>
    split
    · rw [account_countDelivery, account_setContent]
      exact hs.deliverUnit honline hholds
    · exact hs
  next => exact hs

theorem placeBin_account_sound (n : NozzleId) : (placeBin h n s).1.account.Sound := by
  unfold placeBin
  split_ifs
  · exact hs
  · exact hs
  · exact deliverUnit_account_sound hs honline n

/-- What a completed leg of an online head does keeps the account (R89 to R93). -/
theorem legEffect_account_sound (p : NozzleId) (l : Leg) : (legEffect h p l s).1.account.Sound := by
  unfold legEffect
  dsimp only
  split
  · exact pickInput_account_sound hs honline _ l
  · exact pickSite_account_sound hs honline _ _
  · exact placeSite_account_sound hs honline _ _
  · exact placeBin_account_sound hs honline _
  · exact hs

/-- Nozzles made SUSPECT keep their units (R98). -/
theorem suspectNozzles_account_sound (p : NozzleId) (legs : List Leg) :
    (suspectNozzles h p legs s).account.Sound := by
  unfold suspectNozzles
  induction legs.filterMap (legNozzle p) generalizing s with
  | nil => exact hs
  | cons n rest ih =>
    refine ih ?_ honline
    show (setContent h n (s.nozzle h n).content.suspected s).account.Sound
    rw [account_setContent]
    exact hs.setNozzle honline rfl

end

@[simp] theorem account_releaseTo (h : HeadIx) (z : ZoneIx) (keep : List ZoneIx) (s : State) :
    (releaseTo h z keep s).account = s.account := by
  have hrest : ∀ t, (setResting h (some z) t).account = t.account := fun t => account_setHead_same rfl
  rw [releaseTo, hrest, account_releaseBut]

@[simp] theorem account_flipPointer (h : HeadIx) (legs : List Leg) (s : State) :
    (flipPointer h legs s).account = s.account := by
  unfold flipPointer
  split_ifs <;> rfl

@[simp] theorem account_giveAbortCause (c : AbortCode) (h : HeadIx) (s : State) :
    (giveAbortCause c h s).account = s.account := by
  unfold giveAbortCause
  split
  · exact account_giveCause _ h s
  · rfl

@[simp] theorem account_orderDone (h : HeadIx) (k : SlotIx) (legs : List Leg) (l : Leg) (s : State) :
    (orderDone h k legs l s).account = s.account := by
  simp only [orderDone, account_advanceFetch, account_setOrderState, account_flipPointer, account_releaseTo]

@[simp] theorem account_orderAborted (h : HeadIx) (k : SlotIx) (c : AbortCode) (l : Leg) (after : List Leg)
    (s : State) : (orderAborted h k c l after s).account = s.account := by
  simp only [orderAborted, account_captureFault, account_advanceFetch, account_setOrderState, account_releaseTo,
    account_giveAbortCause, account_unpendTags, account_dropReservationsBut]

/-- A report done moves the units that its leg moves, and no other. -/
theorem account_completeLeg (h : HeadIx) (k : SlotIx) (legs : List Leg) (j : Nat) (l : Leg) (s : State) :
    (completeLeg h k legs j l s).account = (legEffect h (activeNozzle s h (s.order h k)) l s).1.account := by
  unfold completeLeg
  dsimp only
  rw [account_compareLines]
  split
  · rw [account_orderAborted, account_dropReservationsBut, account_setCompleted]
  · split_ifs
    · rw [account_orderDone, account_dropReservationsBut, account_setCompleted]
    · rw [account_releaseTo, account_dropReservationsBut, account_setCompleted]

@[simp] theorem account_dropReservation (i : SocketIx) (s : State) : (dropReservation i s).account = s.account :=
  account_setSocket_same rfl

/-- A socket that a failed leg's order leaves keeps its unit (R117). -/
theorem account_legFailSocket (i : SocketIx) (s : State) : (legFailSocket i s).account = s.account := by
  rw [legFailSocket, account_dropReservation]
  exact account_changePhase_same rfl

@[simp] theorem account_legFailSockets (l : List SocketIx) (s : State) : (legFailSockets l s).account = s.account :=
  foldl_keeps State.account (fun t i => account_legFailSocket i t) l s

@[simp] theorem account_faultHead (h : HeadIx) (s : State) : (faultHead h s).account = s.account :=
  account_setHead_same rfl

@[simp] theorem account_reportError (h : HeadIx) (k : SlotIx) (s : State) :
    (reportError h k s).account = s.account := by
  rw [reportError, account_giveCauseOnline, account_captureFault]
  rfl

theorem takeLegDone_account_sound {h : HeadIx} {s : State} (hs : s.account.Sound) (w : Word) :
    (takeLegDone h w s).account.Sound := by
  unfold takeLegDone
  dsimp only
  split
  next ha _ =>
    rw [account_completeLeg]
    exact legEffect_account_sound hs (headState_moving (reportAccepted_moving ha)).1 _ _
  next => exact account_reportError h _ s ▸ hs

theorem takeLegFailed_account_sound {h : HeadIx} {s : State} (hs : s.account.Sound) (w : Word) :
    (takeLegFailed h w s).account.Sound := by
  unfold takeLegFailed
  dsimp only
  split
  next ha _ =>
    have hsockets := account_legFailSockets (reservedSockets s h s.fetchIndex[h]) s
    have honline := congrArg (fun a => a.online h) hsockets
    simp only [failLeg, account_compareLines, account_captureFault, account_advanceFetch, account_faultHead,
      account_setOrderState, account_unpendTags]
    exact suspectNozzles_account_sound (hsockets.symm ▸ hs)
      (honline.trans (headState_moving (reportAccepted_moving ha)).1) _ _
  next => exact account_reportError h _ s ▸ hs

theorem writeReport_account_sound (h : HeadIx) (w : Word) {s : State} (hs : s.account.Sound) :
    (writeReport h w s).account.Sound := by
  have hw : (passWrite (.drive h) (reportAddr h) w s).account.Sound := hs
  unfold writeReport
  dsimp only
  split
  · exact takeLegDone_account_sound hw w
  · exact takeLegFailed_account_sound hw w
  · rw [account_reportError]
    exact hw

/-! ### Control words (R13, R31, R32, R136, R156 to R166) -/

theorem controlWrite_account_sound {block : State → State × ControlResult}
    (hblock : ∀ t, OrdersSound t → t.account.Sound → (block t).1.account.Sound) (w : Word) {s : State}
    (ho : OrdersSound s) (hs : s.account.Sound) : (controlWrite w block s).account.Sound :=
  hblock _ ((passWrite_keeps .controller controlAddr w s).sound ho) hs

theorem startPhase_unit (enabled present : Bool) : (startPhase enabled present).unit = none := by
  cases enabled <;> cases present <;> rfl

/-- In SETUP no socket carries a unit, and at entry to RUN none does (R28, R31). -/
theorem account_enterRun {s : State} (ho : OrdersSound s) (hm : s.mode = .setup) :
    (enterRun s).account = s.account := by
  obtain ⟨-, -, hparked, -⟩ := (setupStill_iff s).mp ho.1 hm
  rw [enterRun, captureStrays, foldl_keeps State.account fun t i => account_captureFault _ t]
  ext1
  case socketUnit =>
    funext i
    simp only [State.account, getElem_ofFn_fin, startSocket, startPhase_unit, (hparked i).1]
    rfl
  all_goals rfl

/-- DECK RESET discards every unit carried (R13). -/
theorem deckReset_account_sound {s : State} (hs : s.account.Sound) : (deckReset s).account.Sound := by
  have hunit : ∀ c, (deckReset s).account.unitAt c = none := by
    intro c
    cases c with
    | socket i => simp [Account.unitAt, State.account, deckReset, takeSnapshot, deckCleared, Socket.reset, Phase.unit]
    | nozzle h n =>
      cases n <;>
        simp [Account.unitAt, State.account, deckReset, takeSnapshot, deckCleared, State.nozzle, PerNozzle.get,
          NozzleContent.unit]
  have hcarried : (deckReset s).account.carried = 0 := by
    unfold Account.carried
    rw [funext hunit]
    rfl
  have hdiscarded : (deckReset s).account.discarded = s.account.discarded + s.account.carried := by
    rw [carried_account]
    rfl
  have hbalance := hs.balanced
  refine ⟨?_, fun h _ n => ?_⟩
  · have hsame : (deckReset s).account.surplus = s.account.surplus := by
      rw [Account.surplus, hcarried, hdiscarded, Account.surplus]
      show s.account.delivered + (s.account.discarded + s.account.carried) + 0 - s.account.picked = _
      ring
    rw [hsame, hbalance]
  · cases n <;> simp [State.account, deckReset, takeSnapshot, deckCleared, State.nozzle, PerNozzle.get]

section

variable {h : HeadIx} {s : State} (hs : s.account.Sound)
include hs

/-- CLEAR TALLIES is taken with no unit carried only (R136). -/
theorem takeClearTallies_account_sound : (takeClearTallies s).1.account.Sound := by
  unfold takeClearTallies
  split_ifs with hnone
  · refine ⟨?_, hs.offline⟩
    have hcarried : s.account.carried = 0 := by
      rw [carried_account, hnone]
      rfl
    have hdelivered : deliveredSum { s with delivered := Vector.replicate 8 0 } = 0 := rfl
    show deliveredSum { s with delivered := Vector.replicate 8 0 } + 0 + s.account.carried - 0 = 0
    rw [hcarried, hdelivered]
    rfl
  · exact hs

theorem account_bringOnline (hoff : s.heads[h].online = false) (z : ZoneIx) (f : SlotIx) (q : Seq) :
    (bringOnline h z f q s).account = s.account.setOnline h true := by
  have hempty : ∀ n, (s.account.setOnline h true).nozzle h n = .empty := hs.offline h hoff
  have hclaim : (claimZone h z s).account = s.account := account_setZone z _ s
  simp only [bringOnline, account_compareLines, account_setExpectedSeq, account_setFetchIndex, account_setPointer,
    account_setContent, account_setHead, hclaim]
  show ((s.account.setOnline h true).setNozzle h .a .empty).setNozzle h .b .empty = s.account.setOnline h true
  rw [Account.setNozzle_same (hempty .a), Account.setNozzle_same (hempty .b)]

theorem takeHeadOnline_account_sound (w : Word) : (takeHeadOnline w s).1.account.Sound := by
  unfold takeHeadOnline
  cases s.mode with
  | setup => exact hs
  | run =>
    dsimp only
    split_ifs with hstate
    · exact hs
    · exact hs
    · exact hs
    · dsimp only
      rw [account_bringOnline hs (Bool.eq_false_of_not_eq_true (not_or.mp hstate).2)]
      exact hs.setOnline nofun

omit hs in
theorem account_takeOffDeck : (takeOffDeck h s).account = s.account.setOnline h false := by
  have hwaiting : (refuseWaiting h s).account = s.account := by
    unfold refuseWaiting
    split_ifs
    · rw [account_refuseOrder, account_stopHolding]
    · rfl
  have hleave : ∀ t, (leaveResting h t).account = t.account := by
    intro t
    unfold leaveResting
    split
    · split_ifs <;> rfl
    · rfl
  unfold takeOffDeck
  dsimp only
  rw [account_compareLines, account_setHead, hleave, hwaiting]
  rfl

theorem takeHeadOffline_account_sound (w : Word) : (takeHeadOffline w s).1.account.Sound := by
  unfold takeHeadOffline
  cases s.mode with
  | setup => exact hs
  | run =>
    dsimp only
    cases headState s (ctlHead w)
    case offline | moving | faulted => exact hs
    case idle | waiting =>
      dsimp only
      split_ifs with hempty
      · dsimp only
        rw [account_takeOffDeck]
        simp only [nozzlesEmpty, Bool.and_eq_true, beq_iff_eq] at hempty
        obtain ⟨ha, hb⟩ := hempty
        refine hs.setOnline fun _ n => ?_
        cases n
        · exact ha
        · exact hb
      · exact hs

/-- A nozzle's action keeps its unit, or discards it (R130, R166). -/
theorem applyAction_account_sound (honline : s.heads[h].online = true) (n : NozzleId) (a : NozzleAction) :
    (applyAction h n a s).account.Sound := by
  cases a with
  | leave => exact hs
  | keep =>
    rw [applyAction, account_setContent]
    refine hs.setNozzle honline (congrArg weight ?_)
    show NozzleContent.unit (s.nozzle h n).content.kept = (s.nozzle h n).content.unit
    obtain _ | u | _ | u := (s.nozzle h n).content <;> rfl
  | discard =>
    rw [applyAction, account_countDiscards, account_setContent]
    exact hs.discardNozzle honline

theorem recoverHead_account_sound (honline : s.heads[h].online = true) (z : ZoneIx) (a b : NozzleAction) :
    (recoverHead h z a b s).account.Sound := by
  have hfirst := applyAction_account_sound hs honline .a a
  have honline' : (applyAction h .a a s).heads[h].online = true := by
    cases a <;> exact honline
  have hunfault : ∀ t : State, (t.setHead h { t.heads[h] with faulted := false }).account = t.account :=
    fun t => account_setHead_same rfl
  unfold recoverHead
  dsimp only
  rw [account_compareLines, hunfault, account_releaseTo]
  exact applyAction_account_sound hfirst honline' .b b

omit hs in
theorem online_of_headState (hoff : headState s h ≠ .offline) : s.heads[h].online = true := by
  unfold headState at hoff
  cases honline : s.heads[h].online with
  | true => rfl
  | false => simp only [honline, Bool.not_false, if_true, ne_eq, not_true_eq_false] at hoff

theorem checkRecover_account_sound (z : ZoneIx) (a b : NozzleAction) :
    (checkRecover h z a b s).1.account.Sound := by
  unfold checkRecover
  cases hstate : headState s h
  case offline | waiting | moving => exact hs
  case idle | faulted =>
    have honline := online_of_headState (h := h) (by rw [hstate]; exact nofun)
    dsimp only
    split_ifs
    · exact hs
    · split
      · exact hs
      · exact hs
      · exact recoverHead_account_sound hs honline z a b

theorem takeHeadRecover_account_sound (w : Word) : (takeHeadRecover w s).1.account.Sound := by
  unfold takeHeadRecover
  split
  · cases s.mode with
    | setup => exact hs
    | run => exact checkRecover_account_sound hs _ _ _
  · exact hs

theorem takeModeRun_account_sound (ho : OrdersSound s) : (takeModeRun s).1.account.Sound := by
  unfold takeModeRun
  cases hm : s.mode with
  | run => exact hs
  | setup =>
    cases profileFailure s with
    | some f => exact hs
    | none => exact account_enterRun ho hm ▸ hs

theorem takeModeSetup_account_sound : (takeModeSetup s).1.account.Sound := by
  unfold takeModeSetup
  cases s.mode with
  | setup => exact hs
  | run =>
    dsimp only
    split_ifs
    · exact hs
    · exact hs
    · exact deckReset_account_sound hs

theorem takeMask_account_sound (w : Word) : (takeMask w s).1.account.Sound := by
  unfold takeMask
  cases s.mode with
  | setup => exact hs
  | run =>
    dsimp only
    split_ifs
    · exact account_giveCause _ _ s ▸ hs
    · exact hs

theorem takeMaskClear_account_sound (w : Word) : (takeMaskClear w s).1.account.Sound := by
  have hclear : ∀ h, (clearMask h s).account = s.account := fun h => account_setHead_same rfl
  unfold takeMaskClear
  cases s.mode with
  | setup => exact hs
  | run =>
    dsimp only
    split_ifs
    · exact hclear _ ▸ hs
    · exact hs

theorem takeDrain_account_sound : (takeDrain s).1.account.Sound := by
  unfold takeDrain
  cases s.mode <;> exact hs

theorem commandBlock_account_sound (ho : OrdersSound s) (c : Command) (w : Word) :
    (commandBlock c w s).1.account.Sound := by
  cases c with
  | modeRun => exact takeModeRun_account_sound hs ho
  | modeSetup => exact takeModeSetup_account_sound hs
  | deckReset => exact deckReset_account_sound hs
  | headOnline => exact takeHeadOnline_account_sound hs w
  | headOffline => exact takeHeadOffline_account_sound hs w
  | headRecover => exact takeHeadRecover_account_sound hs w
  | mask => exact takeMask_account_sound hs w
  | maskClear => exact takeMaskClear_account_sound hs w
  | drain => exact takeDrain_account_sound hs
  | clearTallies => exact takeClearTallies_account_sound hs
  | undrain | clearCapture | clearCounters => exact hs

theorem controlWrite_commandBlock_account_sound (ho : OrdersSound s) (c : Command) (w : Word) :
    (controlWrite w (commandBlock c w) s).account.Sound :=
  controlWrite_account_sound (fun _ ht hb => commandBlock_account_sound hb ht c w) w ho hs

theorem writeControl_account_sound (ho : OrdersSound s) (w : Word) : (writeControl w s).account.Sound := by
  refine controlWrite_account_sound (fun t ht hb => ?_) w ho hs
  unfold controlAnswer
  cases controlCommand w with
  | some c => exact commandBlock_account_sound hb ht c w
  | none => exact hb

end

/-! ### Profile words (R22 to R25) -/

theorem account_writeDataWord (w : Word) (s : State) : (writeDataWord w s).account = s.account := by
  have hstore : ∀ t, (storeEntry w t).account = t.account := by
    intro t
    unfold storeEntry
    cases t.counter.page <;> rfl
  unfold writeDataWord
  cases s.mode with
  | run => rfl
  | setup =>
    dsimp only
    split_ifs
    · rfl
    · exact hstore _

theorem account_readDataWord (s : State) : (readDataWord s).account = s.account := by
  unfold readDataWord
  cases s.counter.overrun <;> rfl

/-! ### Socket commands (R107 to R113) -/

/-- A socket command that is accepted keeps the account: only CLEAR FAULT takes a unit off the deck, and counts it as
discarded (R113, R130). -/
theorem socketAnswer_account_sound {c : SocketCommand} {i : SocketIx} {w : Word} {s t : State} (hs : s.account.Sound)
    (h : socketAnswer c i w s = .accepted t) : t.account.Sound := by
  have hsame : ∀ p : Phase, p.unit = s.sockets[i].phase.unit → (s.account.setUnit i p.unit).Sound := fun p hp =>
    hs.setUnit (congrArg weight hp)
  cases c with
  | enable =>
    simp only [socketAnswer, enableSocket] at h
    split at h
    next hp =>
      split_ifs at h <;> cases h
      · rw [account_captureFault, account_commandPhase]
        exact hsame _ (by rw [hp]; rfl)
      · rw [account_commandPhase]
        exact hsame _ (by rw [hp]; rfl)
    next => cases h
  | disable =>
    simp only [socketAnswer, disableSocket] at h
    split at h
    next hp =>
      split_ifs at h
      cases h
      rw [account_commandPhase]
      exact hsame _ (by rw [hp]; rfl)
    next => cases h
  | start =>
    simp only [socketAnswer, startTest] at h
    split at h <;> cases h
    next hp =>
      rw [account_changePhase]
      exact hsame _ (by rw [hp]; rfl)
  | result =>
    simp only [socketAnswer, giveResult] at h
    split at h
    next =>
      split at h <;> cases h
      next hp =>
        rw [account_changePhase]
        refine hs.setUnit ?_
        show weight (some _) = weight s.sockets[i].phase.unit
        rw [hp]
        rfl
    next => cases h
  | abort =>
    simp only [socketAnswer, abortTest] at h
    split at h <;> cases h
    next hp =>
      rw [account_changePhase]
      exact hsame _ (by rw [hp]; rfl)
  | clearFault =>
    simp only [socketAnswer, clearSocketFault] at h
    split at h
    next r u hp =>
      split_ifs at h
      split at h <;> cases h
      next v =>
        rw [account_commandPhase]
        refine hsame _ ?_
        rw [hp]
        unfold clearedPhase
        split_ifs <;> rfl
      next =>
        rw [account_commandPhase, account_countDiscards]
        exact hs.discardSocket (congrArg Phase.unit hp)
    next => cases h

@[simp] theorem account_recordSocketResult (i : SocketIx) (r : SocketResult) (s : State) :
    (recordSocketResult i r s).account = s.account := account_setSocket_same rfl

theorem socketCommandWrite_account_sound (i : SocketIx) (w : Word) {s : State} (hs : s.account.Sound) :
    (socketCommandWrite i w s).account.Sound := by
  have hw : (passWrite .controller (socketCommandAddr i) w s).account.Sound := hs
  unfold socketCommandWrite
  cases socketWordCommand w with
  | none =>
    rw [account_recordSocketResult]
    exact hw
  | some c =>
    dsimp only
    split
    · rw [account_recordSocketResult]
      exact hw
    · cases h : socketAnswer c i w (passWrite .controller (socketCommandAddr i) w s) with
      | accepted t =>
        rw [finishSocketCommand, account_recordSocketResult]
        exact socketAnswer_account_sound hw h
      | refused r =>
        rw [finishSocketCommand, account_recordSocketResult]
        exact hw

/-! ### Ring words (R41 to R54) -/

@[simp] theorem account_controllerProtect (h : HeadIx) (k : Option SlotIx) (s : State) :
    (controllerProtect h k s).account = s.account := account_captureFault _ _

@[simp] theorem account_driveProtect (h : HeadIx) (s : State) : (driveProtect h s).account = s.account :=
  account_captureFault _ _

@[simp] theorem account_writeLeg (h : HeadIx) (k : SlotIx) (j : Fin 7) (w : Word) (s : State) :
    (writeLeg h k j w s).account = s.account := by
  unfold writeLeg
  dsimp only
  split_ifs
  · exact account_controllerProtect h _ s
  · rfl
  · rfl

theorem account_postOrder (h : HeadIx) (k : SlotIx) (w : Word) (s : State) :
    (postOrder h k w s).account = s.account := by
  have herror : ∀ t, (sequenceError h k t).account = t.account := fun t => account_captureFault _ _
  unfold postOrder
  dsimp only
  split_ifs
  · rfl
  · rw [account_setOrder, herror]
    rfl

theorem account_withdrawOrder (h : HeadIx) (k : SlotIx) (w : Word) (s : State) :
    (withdrawOrder h k w s).account = s.account := by
  unfold withdrawOrder
  dsimp only
  rw [account_refuseOrder]
  split_ifs
  · rw [account_stopHolding, account_passWrite]
  · rfl

/-- A header write moves no unit. -/
@[simp] theorem account_writeHeader (h : HeadIx) (k : SlotIx) (w : Word) (s : State) :
    (writeHeader h k w s).account = s.account := by
  have hpost : (headerWithPost h k w s).account = s.account := by
    unfold headerWithPost
    split_ifs
    · exact account_controllerProtect h _ s
    · exact account_postOrder h k w s
  have hclear : (headerWithoutPost h k w s).account = s.account := by
    unfold headerWithoutPost
    cases (s.order h k).state
    case cleared => exact account_controllerProtect h _ s
    case posted | socketWait | zoneWait => exact account_withdrawOrder h k w s
    case done | refused | aborted | free | filling => rfl
  unfold writeHeader
  cases s.mode with
  | setup => rfl
  | run =>
    dsimp only
    split_ifs
    · exact hpost
    · exact hclear

/-! ### Every write by the map (R4) -/

section

variable {s : State} (ho : OrdersSound s) (hs : s.account.Sound)
include ho hs

theorem controllerWrite_account_sound (a : Addr) (w : Word) : (controllerWrite a w s).account.Sound := by
  unfold controllerWrite
  cases regionOf a with
  | control => exact writeControl_account_sound hs ho w
  | profileData => exact account_writeDataWord w s ▸ hs
  | socketCommand i => exact socketCommandWrite_account_sound i w hs
  | report h => exact account_controllerProtect h none s ▸ hs
  | header h k => exact account_writeHeader h k w s ▸ hs
  | leg h k j => exact account_writeLeg h k j w s ▸ hs
  | profilePage | profileAddress | profileResult | status | socketState | socketUnit | socketNote | disposition
    | unassigned | plain => exact hs

omit ho in
theorem driveWrite_account_sound (h : HeadIx) (a : Addr) (w : Word) : (driveWrite h a w s).account.Sound := by
  unfold driveWrite
  split_ifs
  · exact account_driveProtect h s ▸ hs
  · split
    · exact writeReport_account_sound h w hs
    · exact hs

theorem busWrite_account_sound (src : Source) (a : Addr) (w : Word) : (busWrite src a w s).account.Sound := by
  cases src with
  | controller => exact controllerWrite_account_sound ho hs a w
  | drive h => exact driveWrite_account_sound hs h a w

/-! ### Every command, and every step -/

omit ho hs in
theorem powerOn_account_sound : (powerOn s).account.Sound :=
  (account_sound_iff State.reset).mpr ⟨reset_offlineEmpty, reset_talliesBalance⟩

/-- Every command keeps the account. -/
theorem exec_account_sound (c : Instr) : ∃ t, exec c s = .next t ∧ t.account.Sound := by
  cases c
  case powerOnReset => exact ⟨_, rfl, powerOn_account_sound⟩
  case tick p g => exact ⟨_, rfl, tickWith_account_sound p g hs⟩
  case filteredLevelChange l => exact ⟨_, rfl, takeEvent_account_sound (.level l) hs⟩
  case holdTimerExpiry h => exact ⟨_, rfl, takeEvent_account_sound (.hold h) hs⟩
  case seatWindowExpiry i => exact ⟨_, rfl, takeEvent_account_sound (.seat i) hs⟩
  case vacateWindowExpiry i => exact ⟨_, rfl, takeEvent_account_sound (.vacate i) hs⟩
  case disturbanceTimerExpiry l => exact ⟨_, rfl, takeEvent_account_sound (.disturb l) hs⟩
  case recoverCountdownExpiry l => exact ⟨_, rfl, takeEvent_account_sound (.recover l) hs⟩
  case modeRun b => exact ⟨_, rfl, controlWrite_commandBlock_account_sound hs ho .modeRun _⟩
  case modeSetup b => exact ⟨_, rfl, controlWrite_commandBlock_account_sound hs ho .modeSetup _⟩
  case deckReset b => exact ⟨_, rfl, controlWrite_commandBlock_account_sound hs ho .deckReset _⟩
  case headOnline b => exact ⟨_, rfl, controlWrite_commandBlock_account_sound hs ho .headOnline _⟩
  case headOffline b => exact ⟨_, rfl, controlWrite_commandBlock_account_sound hs ho .headOffline _⟩
  case headRecover b => exact ⟨_, rfl, controlWrite_commandBlock_account_sound hs ho .headRecover _⟩
  case mask b => exact ⟨_, rfl, controlWrite_commandBlock_account_sound hs ho .mask _⟩
  case maskClear b => exact ⟨_, rfl, controlWrite_commandBlock_account_sound hs ho .maskClear _⟩
  case drain b => exact ⟨_, rfl, controlWrite_commandBlock_account_sound hs ho .drain _⟩
  case undrain b => exact ⟨_, rfl, controlWrite_commandBlock_account_sound hs ho .undrain _⟩
  case clearTallies b => exact ⟨_, rfl, controlWrite_commandBlock_account_sound hs ho .clearTallies _⟩
  case clearCapture b => exact ⟨_, rfl, controlWrite_commandBlock_account_sound hs ho .clearCapture _⟩
  case clearCounters b => exact ⟨_, rfl, controlWrite_commandBlock_account_sound hs ho .clearCounters _⟩
  case badCommand w => exact ⟨_, rfl, writeControl_account_sound hs ho w⟩
  case profilePageWrite w => exact ⟨_, rfl, hs⟩
  case profileAddressWrite w => exact ⟨_, rfl, hs⟩
  case profileDataWrite w => exact ⟨_, rfl, account_writeDataWord w s ▸ hs⟩
  case profileDataRead => exact ⟨_, rfl, account_readDataWord s ▸ hs⟩
  case statusWord0Read => exact ⟨_, rfl, hs⟩
  case enable i _ | disable i _ | start i _ | result i _ | abort i _ | clearFault i _ | socketBadCommand i _ =>
    exact ⟨_, rfl, socketCommandWrite_account_sound i _ hs⟩
  case legWrite h k j w => exact ⟨_, rfl, account_writeLeg h k j w s ▸ hs⟩
  case post h k _ | withdraw h k _ | retire h k _ | headerWriteSuppressed h k _ =>
    exact ⟨_, rfl, account_writeHeader h k _ s ▸ hs⟩
  case fetch h k => exact ⟨_, rfl, account_fetchHeader h k s ▸ hs⟩
  case legDone h _ | legFailed h _ | malformedReport h _ => exact ⟨_, rfl, writeReport_account_sound h _ hs⟩
  case driveProtect h a w => exact ⟨_, rfl, driveWrite_account_sound hs h a w⟩
  case controllerReportWrite h w => exact ⟨_, rfl, account_controllerProtect h none s ▸ hs⟩
  case passedWrite src a w => exact ⟨_, rfl, busWrite_account_sound ho hs src a w⟩

end

/-- Settles O54: a port clock and every command keep the account, as each moves a unit from one carrier to another or
counts it in the tally of what it does with it. -/
theorem talliesStayBalanced : Obligations.TalliesStayBalanced := by
  unfold Obligations.TalliesStayBalanced
  intro s t ho hoffline hbalance hstep
  have hs : s.account.Sound := (account_sound_iff s).mpr ⟨hoffline, hbalance⟩
  rw [← account_sound_iff]
  unfold step at hstep
  split at hstep
  next =>
    cases hstep
    exact portClock_account_sound hs
  next c rest _ =>
    have hrest : OrdersSound { s with pending := rest } := KeepsOrders.sound (s := s) (.of_eq rfl rfl rfl) ho
    obtain ⟨u, hu, hsound⟩ := exec_account_sound hrest hs c
    rw [hu] at hstep
    cases hstep
    exact hsound

end Sys2Proof.Machine

/-! What a completed leg does, action by action and zone by zone. -/

namespace Sys2Proof.Machine

/-! ### Which effect a leg has, by its action and its zone (R89 to R92) -/

section

variable {l : Leg} {s : State}

theorem legEffect_travel (ha : l.action = .travel) (h : HeadIx) (p : NozzleId) : legEffect h p l s = (s, none) := by
  simp only [legEffect, ha]

theorem legEffect_pickInput (ha : l.action = .pick) (hz : s.zonePage[l.zone].type = 3) (h : HeadIx) (p : NozzleId) :
    legEffect h p l s = pickInput h (l.nozzle.resolve p) l s := by
  have htype : s.zoneType l.zone = some .input := (zoneType_eq_input_iff _).mpr hz
  simp only [legEffect, ha, htype]

theorem legEffect_pickSite (ha : l.action = .pick) (hz : s.zonePage[l.zone].type = 4) (h : HeadIx) (p : NozzleId) :
    legEffect h p l s = pickSite h (l.nozzle.resolve p) l.socket s := by
  have htype : s.zoneType l.zone = some .site := (zoneType_eq_site_iff _).mpr hz
  simp only [legEffect, ha, htype]

theorem legEffect_placeSite (ha : l.action = .place) (hz : s.zonePage[l.zone].type = 4) (h : HeadIx) (p : NozzleId) :
    legEffect h p l s = placeSite h (l.nozzle.resolve p) l.socket s := by
  have htype : s.zoneType l.zone = some .site := (zoneType_eq_site_iff _).mpr hz
  simp only [legEffect, ha, htype]

theorem legEffect_placeBin (ha : l.action = .place) (hz : s.zonePage[l.zone].type = 5) (h : HeadIx) (p : NozzleId) :
    legEffect h p l s = placeBin h (l.nozzle.resolve p) s := by
  have htype : s.zoneType l.zone = some .bin := (zoneType_eq_bin_iff _).mpr hz
  simp only [legEffect, ha, htype]

end

theorem unpendTag_eq (t : Tag) (s : State) :
    unpendTag t s = { s with pendingTags := s.pendingTags.filter (· ≠ t) } := by
  have hfilter : s.pendingTags.filter (· != t) = s.pendingTags.filter (· ≠ t) :=
    List.filter_congr fun u _ => (decide_not (p := u = t)).symm
  rw [unpendTag, hfilter]

section

variable {h : HeadIx} {n : NozzleId} {i : SocketIx} {l : Leg} {s : State}

/-! ### A PICK in an INPUT zone (R89, R93) -/

theorem pickInput_missed (hmiss : (s.nozzle h n).content.isSuspect = true ∨ s.level (.grip h n) = false) :
    pickInput h n l s = (unpendTag l.tag s, some .mispick) := by
  unfold pickInput gripOn
  cases hc : (s.nozzle h n).content with
  | suspect u => rfl
  | empty | holding u =>
    rw [hc] at hmiss
    simp only [hmiss.resolve_left nofun]

theorem pickInput_taken (hempty : (s.nozzle h n).content = .empty) (hon : s.level (.grip h n) = true) :
    pickInput h n l s = (createUnit h n l.tag (unpendTag l.tag s), none) := by
  simp only [pickInput, gripOn, hempty, hon]

/-! ### A PICK in a SITE zone (R90, R93, R114, R115) -/

theorem pickSite_missed (hmiss : (s.nozzle h n).content.isSuspect = true ∨ s.level (.grip h n) = false) :
    pickSite h n i s = (pickMissed i s, some .mispick) := by
  unfold pickSite gripOn
  cases hc : (s.nozzle h n).content with
  | suspect u => rfl
  | empty | holding u =>
    rw [hc] at hmiss
    simp only [hmiss.resolve_left nofun]

theorem pickSite_taken {u : UnitRec} (hempty : (s.nozzle h n).content = .empty) (hon : s.level (.grip h n) = true)
    (hunit : s.sockets[i].phase.unit = some u) :
    pickSite h n i s = (pickTaken i h (setContent h n (.holding u) s), none) := by
  simp only [pickSite, gripOn, hempty, hon, hunit]

/-! ### A PLACE in a SITE zone (R91, R93, R116) -/

theorem placeMissed_vacating (hx : s.sockets[i].phase.isVacating = true) :
    placeMissed i s = changePhase i (.fault .stuck none) s := by
  unfold placeMissed
  cases hp : s.sockets[i].phase with
  | vacating g t => rfl
  | _ => rw [hp] at hx; cases hx

theorem placeMissed_fault (hx : s.sockets[i].phase.isFault = true) : placeMissed i s = s := by
  unfold placeMissed
  cases hp : s.sockets[i].phase with
  | fault r u => rfl
  | _ => rw [hp] at hx; cases hx

theorem placeMissed_empty (hx : s.sockets[i].phase = .empty) :
    placeMissed i s = changePhase i (.fault .misplace none) s := by
  simp only [placeMissed, hx]
  rfl

theorem placeSite_vacating (hx : s.sockets[i].phase.isVacating = true) :
    placeSite h n i s = (changePhase i (.fault .stuck none) s,
      some (if (s.nozzle h n).content.isSuspect then .misplace else .stuck)) := by
  unfold placeSite
  rw [placeMissed_vacating hx, if_pos hx]
  split_ifs <;> rfl

theorem placeSite_fault (hx : s.sockets[i].phase.isFault = true) : placeSite h n i s = (s, some .misplace) := by
  have hvacating : s.sockets[i].phase.isVacating = false := by
    cases hp : s.sockets[i].phase with
    | vacating g t => rw [hp] at hx; cases hx
    | _ => rfl
  unfold placeSite
  rw [placeMissed_fault hx, hvacating, if_neg Bool.false_ne_true, if_pos hx, ite_self]

theorem placeSite_empty (hx : s.sockets[i].phase = .empty) : placeSite h n i s =
    if (s.nozzle h n).content.isSuspect = true ∨ s.level (.grip h n) = true
    then (changePhase i (.fault .misplace none) s, some .misplace) else (placeUnit h n i s, none) := by
  unfold placeSite gripOn
  rw [placeMissed_empty hx, hx]
  simp only [Phase.isVacating, Phase.isFault, Bool.false_eq_true, if_false, ite_or]

theorem placeUnit_placed {u : UnitRec} (hx : s.sockets[i].phase = .empty)
    (hholds : (s.nozzle h n).content = .holding u) :
    placeUnit h n i s = unitPlaced i h (u.placedIn i) (setContent h n .empty s) := by
  simp only [placeUnit, hx, hholds]

/-! ### A PLACE in a BIN zone (R92, R93, R129) -/

theorem placeBin_missed (hmiss : (s.nozzle h n).content.isSuspect = true ∨ s.level (.grip h n) = true) :
    placeBin h n s = (s, some .misplace) := by
  unfold placeBin gripOn
  rw [← ite_or, if_pos hmiss]

theorem placeBin_delivers {u : UnitRec} {k : ClassIx} (hoff : s.level (.grip h n) = false)
    (hholds : (s.nozzle h n).content = .holding u) (hclass : u.result = some (.cls k)) :
    placeBin h n s = (countDelivery k (setContent h n .empty s), none) := by
  simp only [placeBin, gripOn, deliverUnit, hholds, hoff, hclass, NozzleContent.isSuspect, Bool.false_eq_true, if_false]

end

/-- Settles O38: the table of leg effects, zone by zone. -/
theorem legEffectsByTable : Obligations.LegEffectsByTable := by
  unfold Obligations.LegEffectsByTable
  intro h p l s
  dsimp only
  refine ⟨fun ha => legEffect_travel ha h p, fun ha hz => ?_, fun ha hz => ?_, fun ha hz => ?_, fun ha hz => ?_⟩
  · rw [legEffect_pickInput ha hz, ← unpendTag_eq]
    exact ⟨pickInput_missed, pickInput_taken⟩
  · rw [legEffect_pickSite ha hz]
    exact ⟨pickSite_missed, fun u hempty hon hunit => pickSite_taken hempty hon hunit⟩
  · rw [legEffect_placeSite ha hz]
    refine ⟨placeSite_vacating, placeSite_fault, fun hx hmiss => ?_, fun u hx hoff hholds => ?_⟩
    · rw [placeSite_empty hx, if_pos hmiss.symm]
    · have hplaced : ¬ ((s.nozzle h (l.nozzle.resolve p)).content.isSuspect = true ∨
          s.level (.grip h (l.nozzle.resolve p)) = true) := by
        simp [hholds, hoff, NozzleContent.isSuspect]
      rw [placeSite_empty hx, if_neg hplaced, placeUnit_placed hx hholds]
      rfl
  · rw [legEffect_placeBin ha hz]
    exact ⟨placeBin_missed, fun u k hoff hholds hclass => placeBin_delivers hoff hholds hclass⟩

end Sys2Proof.Machine

/-! Reports that fail acceptance. -/

namespace Sys2Proof.Machine

/-! ### Acceptance (R84) -/

/-- The lower fields of a report word do not depend on its OUTCOME. -/
theorem reportSlot_append (c : BitVec 2) (body : BitVec 30) :
    reportSlot (c ++ body) = (body.extractLsb' 24 4).toFin := by
  rw [reportSlot, BitVec.extractLsb'_append_eq_of_add_le (by decide)]

theorem reportLeg_append (c : BitVec 2) (body : BitVec 30) : reportLeg (c ++ body) = (body.extractLsb' 20 3).toNat := by
  rw [reportLeg, BitVec.extractLsb'_append_eq_of_add_le (by decide)]

theorem reportAccepted_iff (s : State) (h : HeadIx) (c : BitVec 2) (body : BitVec 30) :
    reportAccepted s h (c ++ body) = true ↔ headState s h = .moving ∧
      (body.extractLsb' 24 4).toNat = s.fetchIndex[h].val ∧
      (body.extractLsb' 20 3).toNat = (s.orderAt h).completed := by
  simp only [reportAccepted, reportSlot_append, reportLeg_append, Bool.and_eq_true, beq_iff_eq, Fin.ext_iff,
    BitVec.val_toFin, and_assoc]

theorem reportOutcome_malformed {w : Word} (hw : w.extractLsb' 30 2 = 0 ∨ w.extractLsb' 30 2 = 3) :
    reportOutcome w = .malformed := by
  obtain hw | hw := hw <;> rw [reportOutcome, hw] <;> rfl

/-! ### A report error (R85) -/

/-- The state after head h's report word w failed acceptance. -/
def reportRejected (h : HeadIx) (w : Word) (s : State) : State :=
  let t := captureFault
    { kind := .reportError, head := some h, socket := none, slot := some (w.extractLsb' 24 4).toFin, detail := 0 }
    { s with
      lastGrant := .drive, dcm := dcmWrite s.dcm (0x100 + h) w
      counters := s.counters.set h { s.counters[h] with reportErrors := oneMore s.counters[h].reportErrors } }
  if s.heads[h].online then
    { t with heads := s.heads.set h { s.heads[h] with causes := s.heads[h].causes ||| 0x10 } } else t

theorem reportError_passWrite (h : HeadIx) (w : Word) (s : State) :
    reportError h (reportSlot w) (passWrite (.drive h) (reportAddr h) w s) = reportRejected h w s := by
  have hreport : addBit s.heads[h].causes Cause.report.bit = s.heads[h].causes ||| 0x10 := rfl
  unfold reportError giveCauseOnline giveCause State.setHead reportRejected
  dsimp only
  rw [(captureFault_only _ _).heads, countReportError, countUp_eq_oneMore]
  exact if_congr Iff.rfl (by rw [← hreport]; rfl) rfl

theorem exec_malformedReport {h : HeadIx} {w : Word} (hw : reportOutcome w = .malformed) (s : State) :
    exec (.malformedReport h w) s = .next (reportRejected h w s) := by
  rw [← reportError_passWrite]
  refine congrArg Host.Outcome.next ?_
  simp only [writeReport, hw]

section

variable {h : HeadIx} {w : Word} {s : State}

theorem takeLegDone_rejected (hr : reportAccepted s h w = false) :
    takeLegDone h w s = reportError h (reportSlot w) s := by
  simp only [takeLegDone, hr]

theorem takeLegFailed_rejected (hr : reportAccepted s h w = false) :
    takeLegFailed h w s = reportError h (reportSlot w) s := by
  simp only [takeLegFailed, hr]

theorem exec_legDone_rejected {body : BitVec 30} (hr : reportAccepted s h (doneReport body) = false) :
    exec (.legDone h body) s = .next (reportRejected h (doneReport body) s) := by
  have houtcome : reportOutcome (doneReport body) = .legDone :=
    (reportOutcome_iff _).1.mpr (by rw [doneReport, BitVec.extractLsb'_append_eq_of_le (by decide)]; rfl)
  rw [← reportError_passWrite]
  refine congrArg Host.Outcome.next ?_
  simp only [writeReport, houtcome]
  exact takeLegDone_rejected hr

theorem exec_legFailed_rejected {body : BitVec 30} (hr : reportAccepted s h (failedReport body) = false) :
    exec (.legFailed h body) s = .next (reportRejected h (failedReport body) s) := by
  have houtcome : reportOutcome (failedReport body) = .legFailed :=
    (reportOutcome_iff _).2.mpr (by rw [failedReport, BitVec.extractLsb'_append_eq_of_le (by decide)]; rfl)
  rw [← reportError_passWrite]
  refine congrArg Host.Outcome.next ?_
  simp only [writeReport, houtcome]
  exact takeLegFailed_rejected hr

end

/-- Settles O41: a malformed report, and a report of a leg that is not due. -/
theorem rejectedReportIsCounted : Obligations.RejectedReportIsCounted := by
  unfold Obligations.RejectedReportIsCounted
  intro h s
  refine ⟨fun w hw => exec_malformedReport (reportOutcome_malformed hw) s, fun body hdue => ?_⟩
  have hrejected : ∀ c : BitVec 2, reportAccepted s h (c ++ body) = false := fun c =>
    Bool.eq_false_of_not_eq_true fun ha => hdue ((reportAccepted_iff s h c body).mp ha)
  exact ⟨exec_legDone_rejected (hrejected 1), exec_legFailed_rejected (hrejected 2)⟩

end Sys2Proof.Machine

/-! What result a unit has in each state of its socket, under every step. -/

namespace Sys2Proof.Machine

/-! ### The result that fits a socket's state (R103, R128) -/

/-- The unit of a socket in this state has a result exactly where R103 and R128 give it one: none in SEATING, LOADED and
TESTING, one in TESTED. -/
def Phase.ResultFits : Phase → Prop
  | .seating u _ _ | .loaded u | .testing u => u.result = none
  | .tested u => u.result ≠ none
  | .disabled | .empty | .vacating _ _ | .fault _ _ => True

theorem resultsFollowStates_iff (s : State) :
    ResultsFollowStates s ↔ ∀ i : SocketIx, s.sockets[i].phase.ResultFits := Iff.rfl

/-- Every socket whose unit's result fits its state in s is such a socket in t. -/
structure KeepsResults (s t : State) : Prop where
  fits : ∀ i : SocketIx, s.sockets[i].phase.ResultFits → t.sockets[i].phase.ResultFits

section

variable {s t u : State}

theorem KeepsResults.refl : KeepsResults s s := ⟨fun _ => id⟩

theorem KeepsResults.trans (h : KeepsResults s t) (k : KeepsResults t u) : KeepsResults s u :=
  ⟨fun i hfit => k.fits i (h.fits i hfit)⟩

theorem KeepsResults.of_sockets (h : t.sockets = s.sockets) : KeepsResults s t := ⟨fun _ hfit => h.symm ▸ hfit⟩

theorem KeepsResults.congr_left {s' : State} (h : KeepsResults s' t) (hs : s'.sockets = s.sockets) : KeepsResults s t :=
  (KeepsResults.of_sockets hs).trans h

theorem KeepsResults.congr_right {t' : State} (h : KeepsResults s t') (ht : t.sockets = t'.sockets) :
    KeepsResults s t :=
  h.trans (.of_sockets ht)

theorem KeepsResults.of_fits (h : ∀ i : SocketIx, t.sockets[i].phase.ResultFits) : KeepsResults s t := ⟨fun i _ => h i⟩

theorem KeepsResults.of_phases (h : ∀ i : SocketIx, t.sockets[i].phase = s.sockets[i].phase) : KeepsResults s t :=
  ⟨fun i hfit => (h i).symm ▸ hfit⟩

theorem KeepsResults.foldl {α : Type} {f : State → α → State} (hf : ∀ t a, KeepsResults t (f t a)) (l : List α)
    (s : State) : KeepsResults s (l.foldl f s) := by
  induction l generalizing s with
  | nil => exact .refl
  | cons a rest ih => exact (hf s a).trans (ih _)

theorem OnlyCapture.keepsResults (h : OnlyCapture s t) : KeepsResults s t := .of_sockets h.sockets

end

theorem setSocket_keepsResults {i : SocketIx} {x : Socket} {s : State}
    (hx : s.sockets[i].phase.ResultFits → x.phase.ResultFits) : KeepsResults s (s.setSocket i x) := by
  refine ⟨fun j hfit => ?_⟩
  rw [State.setSocket_sockets, getElem_set_fin]
  split_ifs with hj
  · exact hx (hj ▸ hfit)
  · exact hfit

/-! ### Operations that leave the sockets as they are -/

@[simp] theorem sockets_answer (h : HeadIx) (w : Word) (s : State) : (answer h w s).sockets = s.sockets := by
  dsimp only [answer, returnWord]

@[simp] theorem sockets_advanceFetch (h : HeadIx) (s : State) : (advanceFetch h s).sockets = s.sockets :=
  s.setFetchIndex_sockets h _

@[simp] theorem sockets_stopHolding (h : HeadIx) (s : State) : (stopHolding h s).sockets = s.sockets :=
  (leaveLists h s).setHoldTimer_sockets h _

@[simp] theorem sockets_refuseOrder (h : HeadIx) (k : SlotIx) (r : Reason) (skip : Bool) (s : State) :
    (refuseOrder h k r skip s).sockets = s.sockets := s.setOrder_sockets h k _

@[simp] theorem sockets_setOrderState (h : HeadIx) (k : SlotIx) (st : OrderState) (s : State) :
    (setOrderState h k st s).sockets = s.sockets := s.setOrder_sockets h k _

@[simp] theorem sockets_releaseTo (h : HeadIx) (z : ZoneIx) (keep : List ZoneIx) (s : State) :
    (releaseTo h z keep s).sockets = s.sockets := (releaseBut h (z :: keep) s).setHead_sockets h _

@[simp] theorem sockets_unpendTags (l : List Tag) (s : State) : (unpendTags l s).sockets = s.sockets := by
  dsimp only [unpendTags]

@[simp] theorem sockets_faultHead (h : HeadIx) (s : State) : (faultHead h s).sockets = s.sockets :=
  s.setHead_sockets h _

@[simp] theorem sockets_captureFault (f : FaultReport) (s : State) : (captureFault f s).sockets = s.sockets :=
  (captureFault_only f s).sockets

@[simp] theorem sockets_giveCauseOnline (c : Cause) (h : HeadIx) (s : State) :
    (giveCauseOnline c h s).sockets = s.sockets := by
  unfold giveCauseOnline
  split_ifs <;> rfl

@[simp] theorem sockets_chargeOpen (l : Line) (s : State) : (chargeOpen l s).sockets = s.sockets := by
  unfold chargeOpen
  split <;> rfl

@[simp] theorem sockets_chargeFaulted (l : Line) (s : State) : (chargeFaulted l s).sockets = s.sockets := by
  unfold chargeFaulted
  split <;> rfl

@[simp] theorem sockets_giveAbortCause (c : AbortCode) (h : HeadIx) (s : State) :
    (giveAbortCause c h s).sockets = s.sockets := by
  cases c <;> rfl

@[simp] theorem sockets_flipPointer (h : HeadIx) (legs : List Leg) (s : State) :
    (flipPointer h legs s).sockets = s.sockets := by
  unfold flipPointer
  split_ifs <;> rfl

@[simp] theorem sockets_orderDone (h : HeadIx) (k : SlotIx) (legs : List Leg) (l : Leg) (s : State) :
    (orderDone h k legs l s).sockets = s.sockets := by
  simp [orderDone]

@[simp] theorem sockets_joinSockets (h : HeadIx) (l : List SocketIx) (s : State) :
    (joinSockets h l s).sockets = s.sockets :=
  foldl_keeps State.sockets (f := fun t i => joinSocketList h i t) (fun t i => t.setSocketWaiters_sockets i _) l s

@[simp] theorem sockets_joinZones (h : HeadIx) (l : List ZoneIx) (s : State) :
    (joinZones h l s).sockets = s.sockets := by
  refine foldl_keeps State.sockets (fun t z => ?_) l s
  unfold joinZoneList
  split_ifs <;> rfl

@[simp] theorem sockets_claimZones (h : HeadIx) (l : List ZoneIx) (s : State) :
    (claimZones h l s).sockets = s.sockets :=
  foldl_keeps State.sockets (f := fun t z => claimZone h z t) (fun t z => t.setZone_sockets z _) l s

@[simp] theorem sockets_suspectNozzles (h : HeadIx) (p : NozzleId) (legs : List Leg) (s : State) :
    (suspectNozzles h p legs s).sockets = s.sockets :=
  foldl_keeps State.sockets (f := fun t n => suspectNozzle h n t) (fun t n => t.setNozzle_sockets h n _) _ s

@[simp] theorem sockets_refuseWaiting (h : HeadIx) (s : State) : (refuseWaiting h s).sockets = s.sockets := by
  unfold refuseWaiting
  split_ifs <;> simp

@[simp] theorem sockets_leaveResting (h : HeadIx) (s : State) : (leaveResting h s).sockets = s.sockets := by
  unfold leaveResting
  split
  · split_ifs <;> rfl
  · rfl

@[simp] theorem sockets_applyAction (h : HeadIx) (n : NozzleId) (a : NozzleAction) (s : State) :
    (applyAction h n a s).sockets = s.sockets := by
  cases a <;> rfl

theorem sockets_controllerProtect (h : HeadIx) (k : Option SlotIx) (s : State) :
    (controllerProtect h k s).sockets = s.sockets := sockets_captureFault _ _

theorem sockets_driveProtect (h : HeadIx) (s : State) : (driveProtect h s).sockets = s.sockets :=
  sockets_captureFault _ _

theorem sockets_reportError (h : HeadIx) (k : SlotIx) (s : State) : (reportError h k s).sockets = s.sockets := by
  rw [reportError, sockets_giveCauseOnline, sockets_captureFault]
  rfl

theorem sockets_writeDataWord (w : Word) (s : State) : (writeDataWord w s).sockets = s.sockets := by
  have hstore : ∀ t, (storeEntry w t).sockets = t.sockets := by
    intro t
    unfold storeEntry
    cases t.counter.page <;> rfl
  unfold writeDataWord
  cases s.mode with
  | run => rfl
  | setup =>
    dsimp only
    split_ifs
    · rfl
    · exact hstore _

theorem sockets_readDataWord (s : State) : (readDataWord s).sockets = s.sockets := by
  unfold readDataWord
  cases s.counter.overrun <;> rfl

theorem sockets_writeLeg (h : HeadIx) (k : SlotIx) (j : Fin 7) (w : Word) (s : State) :
    (writeLeg h k j w s).sockets = s.sockets := by
  unfold writeLeg
  dsimp only
  split_ifs
  · exact sockets_controllerProtect h _ s
  · rfl
  · rfl

theorem sockets_postOrder (h : HeadIx) (k : SlotIx) (w : Word) (s : State) :
    (postOrder h k w s).sockets = s.sockets := by
  have herror : ∀ t, (sequenceError h k t).sockets = t.sockets := fun t => sockets_captureFault _ _
  unfold postOrder
  dsimp only
  split_ifs
  · rfl
  · exact herror _

theorem sockets_withdrawOrder (h : HeadIx) (k : SlotIx) (w : Word) (s : State) :
    (withdrawOrder h k w s).sockets = s.sockets := by
  unfold withdrawOrder
  dsimp only
  split_ifs <;> simp

theorem sockets_writeHeader (h : HeadIx) (k : SlotIx) (w : Word) (s : State) :
    (writeHeader h k w s).sockets = s.sockets := by
  have hpost : (headerWithPost h k w s).sockets = s.sockets := by
    unfold headerWithPost
    split_ifs
    · exact sockets_controllerProtect h _ s
    · exact sockets_postOrder h k w s
  have hclear : (headerWithoutPost h k w s).sockets = s.sockets := by
    unfold headerWithoutPost
    cases (s.order h k).state
    case cleared => exact sockets_controllerProtect h _ s
    case posted | socketWait | zoneWait => exact sockets_withdrawOrder h k w s
    case done | refused | aborted | free | filling => rfl
  unfold writeHeader
  cases s.mode with
  | setup => rfl
  | run =>
    dsimp only
    split_ifs
    · exact hpost
    · exact hclear

/-! ### Lines, and a socket's change of state -/

theorem setSensor_keepsResults (l : Line) (x : Sensor) (s : State) : KeepsResults s (setSensor l x s) := by
  cases l with
  | presence i => exact setSocket_keepsResults id
  | grip h n => exact .of_sockets rfl

theorem quietLine_keepsResults (l : Line) (s : State) : KeepsResults s (quietLine l s) :=
  (setSensor_keepsResults l .quiet s).trans (.of_sockets rfl)

theorem disturbLine_keepsResults (l : Line) (s : State) : KeepsResults s (disturbLine l s) :=
  (setSensor_keepsResults l _ s).trans (.of_sockets (sockets_chargeOpen l _))

theorem compareLine_keepsResults (l : Line) (s : State) : KeepsResults s (compareLine l s) := by
  unfold compareLine
  split
  · split
    · exact .refl
    · exact quietLine_keepsResults l s
  · split_ifs
    · split
      · exact setSensor_keepsResults l _ s
      · exact .refl
    · split
      · exact .refl
      · exact disturbLine_keepsResults l s

theorem compareLines_keepsResults (ls : List Line) (s : State) : KeepsResults s (compareLines ls s) :=
  .foldl (fun t l => compareLine_keepsResults l t) ls s

theorem changePhase_keepsResults {i : SocketIx} {p : Phase} {s : State}
    (hp : s.sockets[i].phase.ResultFits → p.ResultFits) : KeepsResults s (changePhase i p s) := by
  have hset : KeepsResults s (s.setSocket i { s.sockets[i] with phase := p }) := setSocket_keepsResults hp
  unfold changePhase
  dsimp only
  split_ifs
  · exact hset
  · exact hset.trans (quietLine_keepsResults _ _)

theorem commandPhase_keepsResults {i : SocketIx} {p : Phase} {s : State}
    (hp : s.sockets[i].phase.ResultFits → p.ResultFits) : KeepsResults s (commandPhase i p s) :=
  (changePhase_keepsResults hp).trans (compareLine_keepsResults _ _)

theorem changePhase_fault_keepsResults (i : SocketIx) (r : FaultReason) (u : Option UnitRec) (s : State) :
    KeepsResults s (changePhase i (.fault r u) s) := changePhase_keepsResults fun _ => trivial

/-! ### Line events and expiries -/

/-- A unit seen in SEATING comes to LOADED as it is (R118). -/
theorem seatVacate_keepsResults (i : SocketIx) (level : Bool) (s : State) : KeepsResults s (seatVacate i level s) := by
  unfold seatVacate
  split
  next hp => exact changePhase_keepsResults (by rw [hp]; exact id)
  next => exact changePhase_keepsResults fun _ => trivial
  next => exact .refl

theorem takeLevelChange_keepsResults (l : Line) (s : State) : KeepsResults s (takeLevelChange l s) := by
  have hfilter : ∀ f, (setFilter l f s).sockets = s.sockets := fun f => by cases l <;> rfl
  have howner : ∀ level t, KeepsResults t (ownerOnChange l level t) := by
    intro level t
    cases l with
    | presence i => exact seatVacate_keepsResults i level t
    | grip h n => exact .refl
  unfold takeLevelChange
  dsimp only
  split_ifs
  · exact (KeepsResults.of_sockets (hfilter _)).trans ((howner _ _).trans (compareLine_keepsResults l _))
  · exact .refl

theorem sockets_takeHoldExpiry (h : HeadIx) (s : State) : (takeHoldExpiry h s).sockets = s.sockets := by
  unfold takeHoldExpiry
  dsimp only
  split_ifs <;> simp

theorem takeSeatExpiry_keepsResults (i : SocketIx) (s : State) : KeepsResults s (takeSeatExpiry i s) := by
  unfold takeSeatExpiry
  split
  · exact KeepsResults.trans (changePhase_fault_keepsResults i _ _ s)
      (.of_sockets ((sockets_captureFault _ _).trans (sockets_giveCauseOnline _ _ _)))
  · exact .refl

theorem takeVacateExpiry_keepsResults (i : SocketIx) (s : State) : KeepsResults s (takeVacateExpiry i s) := by
  unfold takeVacateExpiry
  split
  · exact KeepsResults.trans (changePhase_fault_keepsResults i _ _ s)
      (.of_sockets ((sockets_captureFault _ _).trans (sockets_giveCauseOnline _ _ _)))
  · exact .refl

theorem ownerFault_keepsResults (l : Line) (s : State) : KeepsResults s (ownerFault l s) := by
  cases l with
  | presence i =>
    have hfault : ∀ r u f, KeepsResults s (captureFault f (changePhase i (.fault r u) s)) := fun r u f =>
      (changePhase_fault_keepsResults i r u s).trans (captureFault_only f _).keepsResults
    unfold ownerFault socketLineFault
    dsimp only
    split
    case h_5 => exact .refl
    all_goals exact hfault _ _ _
  | grip h n =>
    unfold ownerFault nozzleLineFault
    dsimp only
    split
    case h_3 => exact .refl
    all_goals exact .of_sockets (sockets_captureFault _ _)

theorem takeDisturbExpiry_keepsResults (l : Line) (s : State) : KeepsResults s (takeDisturbExpiry l s) := by
  unfold takeDisturbExpiry
  split_ifs
  · have hcharged : (chargeFaulted l (faultOpenEntries l s)).sockets = s.sockets := sockets_chargeFaulted l _
    exact (KeepsResults.of_sockets hcharged).trans ((ownerFault_keepsResults l _).trans (compareLine_keepsResults l _))
  · exact .refl

theorem takeRecoverExpiry_keepsResults (l : Line) (s : State) : KeepsResults s (takeRecoverExpiry l s) := by
  unfold takeRecoverExpiry
  split_ifs
  · exact quietLine_keepsResults l s
  · exact .refl

theorem takeEvent_keepsResults (e : TimedEvent) (s : State) : KeepsResults s (takeEvent e s) := by
  cases e with
  | level l => exact takeLevelChange_keepsResults l s
  | hold h => exact .of_sockets (sockets_takeHoldExpiry h s)
  | seat i => exact takeSeatExpiry_keepsResults i s
  | vacate i => exact takeVacateExpiry_keepsResults i s
  | disturb l => exact takeDisturbExpiry_keepsResults l s
  | recover l => exact takeRecoverExpiry_keepsResults l s

theorem settleFor_keepsResults (n : Nat) (s : State) : KeepsResults s (settleFor n s) := by
  induction n generalizing s with
  | zero => exact .refl
  | succ n ih =>
    unfold settleFor
    split
    · exact .refl
    · exact KeepsResults.congr_left (s' := { s with freeDraws := s.freeDraws + 1 })
        ((takeEvent_keepsResults _ _).trans (ih _)) rfl

theorem Phase.resultFits_tick {p : Phase} (h : p.ResultFits) : p.tick.ResultFits := by
  cases p <;> exact h

theorem sampleTick_keepsResults (p : BitVec 16) (g : BitVec 8) (s : State) : KeepsResults s (sampleTick p g s) := by
  refine ⟨fun i hfit => ?_⟩
  simp only [sampleTick, getElem_ofFn_fin]
  exact Phase.resultFits_tick hfit

theorem tickWith_keepsResults (p : BitVec 16) (g : BitVec 8) (s : State) : KeepsResults s (tickWith p g s) :=
  (settleFor_keepsResults 128 s).trans (sampleTick_keepsResults p g _)

theorem portClock_keepsResults (s : State) : KeepsResults s (portClock s) := by
  have hsettled : KeepsResults s (settle s) := settleFor_keepsResults 128 s
  unfold portClock
  dsimp only
  split_ifs
  · exact hsettled.congr_right rfl
  · exact hsettled.trans (sampleTick_keepsResults _ _ _)

/-! ### Fetches (R59 to R77) -/

theorem reserveSockets_keepsResults (h : HeadIx) (k : SlotIx) (l : List SocketIx) (s : State) :
    KeepsResults s (reserveSockets h k l s) :=
  .foldl (f := fun t i => reserveSocket h k i t) (fun _ _ => setSocket_keepsResults id) l s

theorem clearOrder_keepsResults (h : HeadIx) (k : SlotIx) (legs : List Leg) (s : State) :
    KeepsResults s (clearOrder h k legs s) := by
  have hclaimed : KeepsResults s (reserveSockets h k (namedSockets s legs) (claimZones h (neededZones s h legs) s)) :=
    (KeepsResults.of_sockets (sockets_claimZones h _ s)).trans (reserveSockets_keepsResults h k _ _)
  unfold clearOrder
  dsimp only
  refine KeepsResults.trans ?_ (.of_sockets (sockets_answer h _ _))
  exact KeepsResults.trans (hclaimed.trans (.of_sockets (by simp [pendTags]))) (compareLines_keepsResults _ _)

section

variable (h : HeadIx) (k : SlotIx) (s : State)

@[simp] theorem sockets_refuseAtFetch (r : Reason) : (refuseAtFetch h k r s).sockets = s.sockets := by
  simp [refuseAtFetch]

@[simp] theorem sockets_keepHeld : (keepHeld h k s).sockets = s.sockets := by
  simp [keepHeld]

@[simp] theorem sockets_startHold : (startHold h s).sockets = s.sockets := s.setHoldTimer_sockets h _

@[simp] theorem sockets_enterHeld (st : OrderState) (fromPosted : Bool) :
    (enterHeld h k st fromPosted s).sockets = s.sockets := by
  unfold enterHeld
  dsimp only
  split_ifs <;> simp

theorem zoneStage_keepsResults (legs : List Leg) : KeepsResults s (zoneStage h k legs s) := by
  unfold zoneStage
  dsimp only
  split_ifs
  · exact .of_sockets (by simp)
  · exact .of_sockets (by simp)
  · exact .of_sockets (by simp)
  · exact clearOrder_keepsResults h k legs s

theorem evaluate_keepsResults : KeepsResults s (evaluate h k s) := by
  unfold evaluate
  dsimp only
  split
  · exact .of_sockets (by simp)
  · split_ifs
    · exact .of_sockets (by simp)
    · exact .of_sockets (by simp)
    · exact .of_sockets (by simp)
    · exact zoneStage_keepsResults h k s _

theorem fetchAtIndex_keepsResults : KeepsResults s (fetchAtIndex h k s) := by
  have hlive : KeepsResults s (fetchLive h k s) := by
    unfold fetchLive
    split_ifs
    · exact .of_sockets (sockets_answer h _ s)
    · exact .of_sockets (sockets_answer h _ s)
    · exact .of_sockets (sockets_answer h _ s)
    · exact evaluate_keepsResults h k s
  have hpassed : ∀ r, (passOver h k r s).sockets = s.sockets := by
    intro r
    unfold passOver
    split_ifs <;> simp
  unfold fetchAtIndex
  cases (s.order h k).state
  case free | filling | done | aborted | cleared => exact .of_sockets (sockets_answer h _ s)
  case posted | socketWait | zoneWait => exact hlive
  case refused r => exact .of_sockets (hpassed r)

theorem fetchHeader_keepsResults : KeepsResults s (fetchHeader h k s) := by
  have hout : ∀ t, (fetchOutOfOrder h k t).sockets = t.sockets := fun t => by
    simp [fetchOutOfOrder, countFetchOrder]
  unfold fetchHeader
  dsimp only
  split_ifs
  · exact .of_sockets (sockets_answer h _ _)
  · exact (fetchAtIndex_keepsResults h k (s.grant (.drive h))).congr_left rfl
  · exact .of_sockets (hout _)

end

/-! ### Reports (R84 to R98) -/

section

variable (h : HeadIx) (n : NozzleId) (i : SocketIx) (s : State)

theorem sockets_pickInput (l : Leg) : (pickInput h n l s).1.sockets = s.sockets := by
  unfold pickInput
  dsimp only
  split <;> rfl

theorem pickTaken_keepsResults : KeepsResults s (pickTaken i h s) :=
  changePhase_keepsResults fun _ => by split_ifs <;> exact trivial

theorem pickSite_keepsResults : KeepsResults s (pickSite h n i s).1 := by
  have hmissed : KeepsResults s (pickMissed i s) := changePhase_fault_keepsResults i _ _ s
  unfold pickSite
  split
  · exact hmissed
  · exact hmissed
  · split
    · exact (pickTaken_keepsResults h i (setContent h n _ s)).congr_left rfl
    · exact .refl
  · exact .refl

theorem placeMissed_keepsResults : KeepsResults s (placeMissed i s) := by
  unfold placeMissed
  split
  · exact .refl
  · exact changePhase_fault_keepsResults i _ _ s
  · exact changePhase_fault_keepsResults i _ _ s

theorem unitPlaced_keepsResults {u : UnitRec} (hu : u.result = none) : KeepsResults s (unitPlaced i h u s) :=
  changePhase_keepsResults fun _ => by split_ifs <;> exact hu

/-- A placed unit comes to its socket without a result (R91, R127). -/
theorem placeUnit_keepsResults : KeepsResults s (placeUnit h n i s) := by
  unfold placeUnit
  split
  · exact (unitPlaced_keepsResults h i (setContent h n .empty s) rfl).congr_left rfl
  · exact .refl

theorem placeSite_keepsResults : KeepsResults s (placeSite h n i s).1 := by
  unfold placeSite
  split_ifs
  · exact placeMissed_keepsResults i s
  · exact placeMissed_keepsResults i s
  · exact .refl
  · exact placeMissed_keepsResults i s
  · exact placeUnit_keepsResults h n i s

theorem sockets_placeBin : (placeBin h n s).1.sockets = s.sockets := by
  have hdelivered : (deliverUnit h n s).sockets = s.sockets := by
    unfold deliverUnit
    split
    · split <;> rfl
    · rfl
  unfold placeBin
  split_ifs
  · rfl
  · rfl
  · exact hdelivered

theorem legEffect_keepsResults (p : NozzleId) (l : Leg) : KeepsResults s (legEffect h p l s).1 := by
  unfold legEffect
  dsimp only
  split
  · exact .of_sockets (sockets_pickInput h _ s l)
  · exact pickSite_keepsResults h _ _ s
  · exact placeSite_keepsResults h _ _ s
  · exact .of_sockets (sockets_placeBin h _ s)
  · exact .refl

end

theorem dropReservationsBut_keepsResults (h : HeadIx) (k : SlotIx) (keep : List SocketIx) (s : State) :
    KeepsResults s (dropReservationsBut h k keep s) :=
  .of_phases fun i => by rw [dropReservationsBut_socket]; split_ifs <;> rfl

theorem orderAborted_keepsResults (h : HeadIx) (k : SlotIx) (c : AbortCode) (l : Leg) (after : List Leg) (s : State) :
    KeepsResults s (orderAborted h k c l after s) := by
  refine (dropReservationsBut_keepsResults h k [] s).trans (.of_sockets ?_)
  unfold orderAborted
  dsimp only
  simp

theorem completeLeg_keepsResults (h : HeadIx) (k : SlotIx) (legs : List Leg) (j : Nat) (l : Leg) (s : State) :
    KeepsResults s (completeLeg h k legs j l s) := by
  have hdone : KeepsResults s (setCompleted h k (j + 1) (legEffect h (activeNozzle s h (s.order h k)) l s).1) :=
    (legEffect_keepsResults h s _ l).trans (.of_sockets rfl)
  have hdropped := hdone.trans (dropReservationsBut_keepsResults h k (namedSockets s (legs.drop (j + 1))) _)
  unfold completeLeg
  dsimp only
  refine KeepsResults.trans ?_ (compareLines_keepsResults _ _)
  split
  · exact hdropped.trans (orderAborted_keepsResults h k _ l _ _)
  · split_ifs
    · exact hdropped.trans (.of_sockets (sockets_orderDone h k legs l _))
    · exact hdropped.trans (.of_sockets (sockets_releaseTo h _ _ _))

theorem legFailSockets_keepsResults (l : List SocketIx) (s : State) : KeepsResults s (legFailSockets l s) :=
  .foldl (f := fun t i => legFailSocket i t)
    (fun t i => (changePhase_fault_keepsResults i _ _ t).trans (setSocket_keepsResults id)) l s

theorem failLeg_keepsResults (h : HeadIx) (k : SlotIx) (legs rest : List Leg) (l : Leg) (code : BitVec 8) (s : State) :
    KeepsResults s (failLeg h k legs rest l code s) := by
  refine (legFailSockets_keepsResults (reservedSockets s h k) s).trans ?_
  unfold failLeg
  dsimp only
  refine KeepsResults.trans (.of_sockets ?_) (compareLines_keepsResults _ _)
  simp

theorem writeReport_keepsResults (h : HeadIx) (w : Word) (s : State) : KeepsResults s (writeReport h w s) := by
  have herror : ∀ t, KeepsResults t (reportError h (reportSlot w) t) := fun t => .of_sockets (sockets_reportError h _ t)
  have hdone : ∀ t, KeepsResults t (takeLegDone h w t) := by
    intro t
    unfold takeLegDone
    dsimp only
    split
    · exact completeLeg_keepsResults h _ _ _ _ t
    · exact herror t
  have hfailed : ∀ t, KeepsResults t (takeLegFailed h w t) := by
    intro t
    unfold takeLegFailed
    dsimp only
    split
    · exact failLeg_keepsResults h _ _ _ _ _ t
    · exact herror t
  unfold writeReport
  dsimp only
  cases reportOutcome w with
  | legDone => exact (hdone (passWrite (.drive h) (reportAddr h) w s)).congr_left rfl
  | legFailed => exact (hfailed (passWrite (.drive h) (reportAddr h) w s)).congr_left rfl
  | malformed => exact (herror (passWrite (.drive h) (reportAddr h) w s)).congr_left rfl

/-! ### Control words (R13, R31, R32, R156 to R166) -/

theorem startPhase_resultFits (enabled present : Bool) : (startPhase enabled present).ResultFits := by
  cases enabled <;> cases present <;> exact trivial

theorem enterRun_keepsResults (s : State) : KeepsResults s (enterRun s) := by
  refine .of_fits fun i => ?_
  rw [enterRun, (captureStrays_only _ _).sockets, getElem_ofFn_fin]
  exact startPhase_resultFits _ _

theorem deckReset_keepsResults (s : State) : KeepsResults s (deckReset s) := by
  refine .of_fits fun i => ?_
  have hreset : (deckReset s).sockets[i] = s.sockets[i].reset := getElem_ofFn_fin _ i
  rw [hreset]
  exact trivial

theorem takeModeRun_keepsResults (s : State) : KeepsResults s (takeModeRun s).1 := by
  unfold takeModeRun
  split
  · exact .refl
  · split
    · exact .of_sockets rfl
    · exact enterRun_keepsResults s

theorem takeModeSetup_keepsResults (s : State) : KeepsResults s (takeModeSetup s).1 := by
  unfold takeModeSetup
  split
  · exact .refl
  · split_ifs
    · exact .refl
    · exact .refl
    · exact deckReset_keepsResults s

theorem takeHeadOnline_keepsResults (w : Word) (s : State) : KeepsResults s (takeHeadOnline w s).1 := by
  have honline : ∀ h z f q, KeepsResults s (bringOnline h z f q s) := by
    intro h z f q
    unfold bringOnline
    dsimp only
    exact (compareLines_keepsResults _ _).congr_left (by simp [claimZone, setContent])
  unfold takeHeadOnline
  dsimp only
  split
  · exact .refl
  · split_ifs
    · exact .refl
    · exact .refl
    · exact .refl
    · exact honline _ _ _ _

theorem takeHeadOffline_keepsResults (w : Word) (s : State) : KeepsResults s (takeHeadOffline w s).1 := by
  have hoff : ∀ h, KeepsResults s (takeOffDeck h s) := by
    intro h
    unfold takeOffDeck
    dsimp only
    exact (compareLines_keepsResults _ _).congr_left (by simp)
  unfold takeHeadOffline
  dsimp only
  split
  · exact .refl
  · cases headState s (ctlHead w) with
    | offline | moving | faulted => exact .refl
    | idle | waiting =>
      dsimp only
      split_ifs
      · dsimp only
        exact hoff (ctlHead w)
      · exact .refl

theorem recoverHead_keepsResults (h : HeadIx) (z : ZoneIx) (a b : NozzleAction) (s : State) :
    KeepsResults s (recoverHead h z a b s) := by
  unfold recoverHead
  dsimp only
  exact (compareLines_keepsResults _ _).congr_left (by simp)

theorem takeHeadRecover_keepsResults (w : Word) (s : State) : KeepsResults s (takeHeadRecover w s).1 := by
  have hcheck : ∀ h z a b, KeepsResults s (checkRecover h z a b s).1 := by
    intro h z a b
    unfold checkRecover
    cases headState s h with
    | offline | waiting | moving => exact .refl
    | idle | faulted =>
      dsimp only
      split_ifs
      · exact .refl
      · split
        · exact .refl
        · exact .refl
        · exact recoverHead_keepsResults h z a b s
  unfold takeHeadRecover
  split
  · split
    · exact .refl
    · exact hcheck _ _ _ _
  · exact .refl

theorem sockets_takeMask (w : Word) (s : State) : (takeMask w s).1.sockets = s.sockets := by
  unfold takeMask
  dsimp only
  split
  · rfl
  · split_ifs <;> rfl

theorem sockets_takeMaskClear (w : Word) (s : State) : (takeMaskClear w s).1.sockets = s.sockets := by
  unfold takeMaskClear
  dsimp only
  split
  · rfl
  · split_ifs <;> rfl

theorem sockets_takeDrain (s : State) : (takeDrain s).1.sockets = s.sockets := by
  unfold takeDrain
  split <;> rfl

theorem sockets_takeClearTallies (s : State) : (takeClearTallies s).1.sockets = s.sockets := by
  unfold takeClearTallies
  split_ifs <;> rfl

theorem commandBlock_keepsResults (c : Command) (w : Word) (s : State) : KeepsResults s (commandBlock c w s).1 := by
  cases c with
  | modeRun => exact takeModeRun_keepsResults s
  | modeSetup => exact takeModeSetup_keepsResults s
  | deckReset => exact deckReset_keepsResults s
  | headOnline => exact takeHeadOnline_keepsResults w s
  | headOffline => exact takeHeadOffline_keepsResults w s
  | headRecover => exact takeHeadRecover_keepsResults w s
  | mask => exact .of_sockets (sockets_takeMask w s)
  | maskClear => exact .of_sockets (sockets_takeMaskClear w s)
  | drain => exact .of_sockets (sockets_takeDrain s)
  | clearTallies => exact .of_sockets (sockets_takeClearTallies s)
  | undrain | clearCapture | clearCounters => exact .of_sockets rfl

theorem controlWrite_keepsResults {block : State → State × ControlResult} (hblock : ∀ t, KeepsResults t (block t).1)
    (w : Word) (s : State) : KeepsResults s (controlWrite w block s) :=
  KeepsResults.congr_left (s' := passWrite .controller controlAddr w s) ((hblock _).trans (.of_sockets rfl)) rfl

theorem controlWrite_commandBlock_keepsResults (c : Command) (w : Word) (s : State) :
    KeepsResults s (controlWrite w (commandBlock c w) s) :=
  controlWrite_keepsResults (commandBlock_keepsResults c w) w s

theorem writeControl_keepsResults (w : Word) (s : State) : KeepsResults s (writeControl w s) := by
  refine controlWrite_keepsResults (fun t => ?_) w s
  unfold controlAnswer
  cases controlCommand w with
  | some c => exact commandBlock_keepsResults c w t
  | none => exact .refl

/-! ### Socket commands (R107 to R113) -/

theorem clearedPhase_resultFits (u : UnitRec) : (clearedPhase u).ResultFits := by
  unfold clearedPhase
  split_ifs with hr
  · exact Option.isSome_iff_ne_none.mp hr
  · exact Option.not_isSome_iff_eq_none.mp hr

/-- RESULT gives a unit its result as it comes to TESTED, and CLEAR FAULT sorts a unit by its result; START and ABORT
move a unit that has none (R110 to R113, R128). -/
theorem socketAnswer_keepsResults {c : SocketCommand} {i : SocketIx} {w : Word} {s t : State}
    (h : socketAnswer c i w s = .accepted t) : KeepsResults s t := by
  cases c with
  | enable =>
    simp only [socketAnswer, enableSocket] at h
    split at h
    · split_ifs at h <;> cases h
      · exact (commandPhase_keepsResults (p := .fault .stray none) fun _ => trivial).trans
          (captureFault_only _ _).keepsResults
      · exact commandPhase_keepsResults fun _ => trivial
    · cases h
  | disable =>
    simp only [socketAnswer, disableSocket] at h
    split at h
    · split_ifs at h
      cases h
      exact commandPhase_keepsResults fun _ => trivial
    · cases h
  | start =>
    simp only [socketAnswer, startTest] at h
    split at h <;> cases h
    next hp => exact changePhase_keepsResults (by rw [hp]; exact id)
  | result =>
    simp only [socketAnswer, giveResult] at h
    split at h
    · split at h <;> cases h
      exact changePhase_keepsResults fun _ => Option.some_ne_none _
    · cases h
  | abort =>
    simp only [socketAnswer, abortTest] at h
    split at h <;> cases h
    next hp => exact changePhase_keepsResults (by rw [hp]; exact id)
  | clearFault =>
    simp only [socketAnswer, clearSocketFault] at h
    split at h
    · split_ifs at h
      split at h <;> cases h
      · exact commandPhase_keepsResults fun _ => clearedPhase_resultFits _
      · exact (commandPhase_keepsResults (p := .empty) (s := countDiscards _ s) fun _ => trivial).congr_left rfl
    · cases h

theorem recordSocketResult_keepsResults (i : SocketIx) (r : SocketResult) (s : State) :
    KeepsResults s (recordSocketResult i r s) := setSocket_keepsResults id

theorem socketCommandWrite_keepsResults (i : SocketIx) (w : Word) (s : State) :
    KeepsResults s (socketCommandWrite i w s) := by
  have hrefused : ∀ r, KeepsResults s (recordSocketResult i r (passWrite .controller (socketCommandAddr i) w s)) :=
    fun r => (recordSocketResult_keepsResults i r (passWrite .controller (socketCommandAddr i) w s)).congr_left rfl
  unfold socketCommandWrite
  cases socketWordCommand w with
  | none => exact hrefused _
  | some c =>
    dsimp only
    split
    · exact hrefused _
    · cases h : socketAnswer c i w (passWrite .controller (socketCommandAddr i) w s) with
      | accepted t => exact ((socketAnswer_keepsResults h).trans (recordSocketResult_keepsResults i _ t)).congr_left rfl
      | refused r => exact hrefused r

/-! ### Every write by the map (R4) -/

theorem controllerWrite_keepsResults (a : Addr) (w : Word) (s : State) : KeepsResults s (controllerWrite a w s) := by
  unfold controllerWrite
  cases regionOf a with
  | control => exact writeControl_keepsResults w s
  | profileData => exact .of_sockets (sockets_writeDataWord w s)
  | socketCommand i => exact socketCommandWrite_keepsResults i w s
  | report h => exact .of_sockets (sockets_controllerProtect h none s)
  | header h k => exact .of_sockets (sockets_writeHeader h k w s)
  | leg h k j => exact .of_sockets (sockets_writeLeg h k j w s)
  | profilePage | profileAddress | profileResult | status | socketState | socketUnit | socketNote | disposition
    | unassigned | plain => exact .of_sockets rfl

theorem driveWrite_keepsResults (h : HeadIx) (a : Addr) (w : Word) (s : State) :
    KeepsResults s (driveWrite h a w s) := by
  unfold driveWrite
  split_ifs
  · exact .of_sockets (sockets_driveProtect h s)
  · split
    · exact writeReport_keepsResults h w s
    · exact .of_sockets rfl

theorem busWrite_keepsResults (src : Source) (a : Addr) (w : Word) (s : State) :
    KeepsResults s (busWrite src a w s) := by
  cases src with
  | controller => exact controllerWrite_keepsResults a w s
  | drive h => exact driveWrite_keepsResults h a w s

/-! ### Every command, and every step -/

theorem exec_keepsResults (c : Instr) (s : State) : ∃ t, exec c s = .next t ∧ KeepsResults s t := by
  cases c
  case powerOnReset => exact ⟨_, rfl, .of_fits ((resultsFollowStates_iff State.reset).mp reset_resultsFollowStates)⟩
  case tick p g => exact ⟨_, rfl, tickWith_keepsResults p g s⟩
  case filteredLevelChange l => exact ⟨_, rfl, takeEvent_keepsResults (.level l) s⟩
  case holdTimerExpiry h => exact ⟨_, rfl, takeEvent_keepsResults (.hold h) s⟩
  case seatWindowExpiry i => exact ⟨_, rfl, takeEvent_keepsResults (.seat i) s⟩
  case vacateWindowExpiry i => exact ⟨_, rfl, takeEvent_keepsResults (.vacate i) s⟩
  case disturbanceTimerExpiry l => exact ⟨_, rfl, takeEvent_keepsResults (.disturb l) s⟩
  case recoverCountdownExpiry l => exact ⟨_, rfl, takeEvent_keepsResults (.recover l) s⟩
  case modeRun b => exact ⟨_, rfl, controlWrite_commandBlock_keepsResults .modeRun _ s⟩
  case modeSetup b => exact ⟨_, rfl, controlWrite_commandBlock_keepsResults .modeSetup _ s⟩
  case deckReset b => exact ⟨_, rfl, controlWrite_commandBlock_keepsResults .deckReset _ s⟩
  case headOnline b => exact ⟨_, rfl, controlWrite_commandBlock_keepsResults .headOnline _ s⟩
  case headOffline b => exact ⟨_, rfl, controlWrite_commandBlock_keepsResults .headOffline _ s⟩
  case headRecover b => exact ⟨_, rfl, controlWrite_commandBlock_keepsResults .headRecover _ s⟩
  case mask b => exact ⟨_, rfl, controlWrite_commandBlock_keepsResults .mask _ s⟩
  case maskClear b => exact ⟨_, rfl, controlWrite_commandBlock_keepsResults .maskClear _ s⟩
  case drain b => exact ⟨_, rfl, controlWrite_commandBlock_keepsResults .drain _ s⟩
  case undrain b => exact ⟨_, rfl, controlWrite_commandBlock_keepsResults .undrain _ s⟩
  case clearTallies b => exact ⟨_, rfl, controlWrite_commandBlock_keepsResults .clearTallies _ s⟩
  case clearCapture b => exact ⟨_, rfl, controlWrite_commandBlock_keepsResults .clearCapture _ s⟩
  case clearCounters b => exact ⟨_, rfl, controlWrite_commandBlock_keepsResults .clearCounters _ s⟩
  case badCommand w => exact ⟨_, rfl, writeControl_keepsResults w s⟩
  case profilePageWrite | profileAddressWrite | statusWord0Read => exact ⟨_, rfl, .of_sockets rfl⟩
  case profileDataWrite w => exact ⟨_, rfl, .of_sockets (sockets_writeDataWord w s)⟩
  case profileDataRead => exact ⟨_, rfl, .of_sockets (sockets_readDataWord s)⟩
  case enable i _ | disable i _ | start i _ | result i _ | abort i _ | clearFault i _ | socketBadCommand i _ =>
    exact ⟨_, rfl, socketCommandWrite_keepsResults i _ s⟩
  case legWrite h k j w => exact ⟨_, rfl, .of_sockets (sockets_writeLeg h k j w s)⟩
  case post h k _ | withdraw h k _ | retire h k _ | headerWriteSuppressed h k _ =>
    exact ⟨_, rfl, .of_sockets (sockets_writeHeader h k _ s)⟩
  case fetch h k => exact ⟨_, rfl, fetchHeader_keepsResults h k s⟩
  case legDone h _ | legFailed h _ | malformedReport h _ => exact ⟨_, rfl, writeReport_keepsResults h _ s⟩
  case driveProtect h a w => exact ⟨_, rfl, driveWrite_keepsResults h a w s⟩
  case controllerReportWrite h w => exact ⟨_, rfl, .of_sockets (sockets_controllerProtect h none s)⟩
  case passedWrite src a w => exact ⟨_, rfl, busWrite_keepsResults src a w s⟩

/-- Settles O55: socket by socket, a port clock and every command keep a result that fits the socket's state. -/
theorem resultsFollowSocketStates : Obligations.ResultsFollowSocketStates := by
  unfold Obligations.ResultsFollowSocketStates
  intro s t hs hstep
  rw [resultsFollowStates_iff] at hs ⊢
  unfold step at hstep
  split at hstep
  next =>
    cases hstep
    exact fun i => (portClock_keepsResults s).fits i (hs i)
  next c rest _ =>
    obtain ⟨u, hu, hkept⟩ := exec_keepsResults c { s with pending := rest }
    rw [hu] at hstep
    cases hstep
    exact fun i => hkept.fits i (hs i)

end Sys2Proof.Machine

/-! The socket commands: stray source sets and a socket's change of state, then each command of a socket. -/

namespace Sys2Proof.Machine

/-! ### Entries of a stray source set (R145, R149, R150) -/

theorem dropBit_stray (c : BitVec 6) : dropBit c Cause.stray.bit = c &&& ~~~1 := rfl

theorem strayEmpty_iff (v : Vector (Option StrayEntry) 18) : strayEmpty v = true ↔ v = Vector.replicate 18 none := by
  rw [strayEmpty, List.all_eq_true]
  constructor
  · intro h
    refine Vector.ext fun i hi => ?_
    rw [Vector.getElem_replicate]
    exact Option.isNone_iff_eq_none.mp (h _ (Vector.mem_toList_iff.mpr (Vector.getElem_mem hi)))
  · rintro rfl x hx
    rw [Vector.mem_toList_iff, Vector.mem_replicate] at hx
    rw [hx.2]
    rfl

section

variable {r : HeadRec} {l : Line}

theorem HeadRec.chargedOpen_stray (r : HeadRec) (l : Line) : (r.chargedOpen l).stray =
    if r.stray[strayIx l] = none then r.stray.set (strayIx l) (some .opened) else r.stray := by
  unfold HeadRec.chargedOpen
  cases r.stray[strayIx l] <;> rfl

theorem HeadRec.openFaulted_of_open (h : r.stray[strayIx l] = some .opened) :
    r.openFaulted l = { r with stray := r.stray.set (strayIx l) (some .faulted) } := by
  rw [HeadRec.openFaulted, h]

theorem HeadRec.openFaulted_of_not_open (h : r.stray[strayIx l] ≠ some .opened) : r.openFaulted l = r := by
  unfold HeadRec.openFaulted
  split
  next ho => exact absurd ho h
  next => rfl

theorem HeadRec.withoutOpen_of_open (h : r.stray[strayIx l] = some .opened) :
    r.withoutOpen l = { r with
      stray := r.stray.set (strayIx l) none
      causes := if r.stray.set (strayIx l) none = Vector.replicate 18 none then r.causes &&& ~~~1 else r.causes } := by
  rw [HeadRec.withoutOpen, h]
  simp only [strayEmpty_iff, dropBit_stray]

theorem HeadRec.withoutOpen_of_not_open (h : r.stray[strayIx l] ≠ some .opened) : r.withoutOpen l = r := by
  unfold HeadRec.withoutOpen
  split
  next ho => exact absurd ho h
  next => rfl

end

/-! ### The head records a line's event changes -/

theorem heads_mapHeadsConcerned (l : Line) (f : HeadRec → HeadRec) (s : State) (g : HeadIx) :
    (mapHeadsConcerned l f s).heads[g] = if lineConcerns l g then f s.heads[g] else s.heads[g] :=
  getElem_ofFn_fin _ g

theorem heads_dropOpenEntries (l : Line) (s : State) (g : HeadIx) :
    (dropOpenEntries l s).heads[g] = if lineConcerns l g then s.heads[g].withoutOpen l else s.heads[g] :=
  heads_mapHeadsConcerned l _ s g

/-! ### A socket's change of state (R104, R143) -/

theorem setSocket_setSocket (i : SocketIx) (x y : Socket) (s : State) :
    (s.setSocket i x).setSocket i y = s.setSocket i y := by
  simp [State.setSocket]

theorem sockets_setSocket_same (i : SocketIx) (x : Socket) (s : State) : (s.setSocket i x).sockets[i] = x := by
  simp [State.setSocket]

/-- The state after socket i left its state for p by a change that does not keep its sub-state. -/
def resettled (i : SocketIx) (p : Phase) (s : State) : State :=
  { s with
    sockets := s.sockets.set i { s.sockets[i] with phase := p, sensor := .quiet }
    heads := (dropOpenEntries (.presence i) s).heads }

theorem changePhase_eq_resettled {i : SocketIx} {p : Phase} {s : State}
    (h : ¬ (s.sockets[i].phase.seated = true ∧ p.seated = true)) : changePhase i p s = resettled i p s := by
  rw [changePhase_other h, quietLine, setSensor, setSocket_setSocket, sockets_setSocket_same]
  rfl

theorem heads_resettled (i : SocketIx) (p : Phase) (s : State) (g : HeadIx) :
    (resettled i p s).heads[g] = s.heads[g].withoutOpen (.presence i) :=
  (heads_dropOpenEntries (.presence i) s g).trans (if_pos rfl)

theorem sockets_resettled_same (i : SocketIx) (p : Phase) (s : State) :
    (resettled i p s).sockets[i] = { s.sockets[i] with phase := p, sensor := .quiet } := by
  simp [resettled]

/-- Settles O22: an entry by whether it stands and is open; a change of state by whether it stays among the seated
states. -/
theorem socketChangesAndStrayEntries : Obligations.SocketChangesAndStrayEntries := by
  unfold Obligations.SocketChangesAndStrayEntries
  refine ⟨fun l r => ⟨r.chargedOpen_stray l, rfl, rfl, rfl, fun hopen => ?_, fun hnot => ?_⟩, fun i p s => ?_⟩
  · rw [HeadRec.openFaulted_of_open hopen, HeadRec.withoutOpen_of_open hopen]
    exact ⟨rfl, rfl, rfl⟩
  · exact ⟨HeadRec.openFaulted_of_not_open hnot, HeadRec.withoutOpen_of_not_open hnot⟩
  · by_cases hkept : s.sockets[i].phase.seated = true ∧ p.seated = true
    · rw [changePhase_seated hkept.1 hkept.2]
      refine ⟨_, rfl, rfl, fun j hj => ?_, fun _ _ => ⟨sockets_setSocket_same i _ s, rfl⟩, fun h => absurd hkept h⟩
      rw [State.setSocket_sockets, getElem_set_fin, if_neg hj]
    · rw [changePhase_eq_resettled hkept]
      refine ⟨_, rfl, rfl, fun j hj => ?_, fun hs hp => absurd ⟨hs, hp⟩ hkept,
        fun _ => ⟨sockets_resettled_same i p s, heads_resettled i p s⟩⟩
      rw [resettled, getElem_set_fin, if_neg hj]

/-! ### The words of the socket commands (R107; 11.3) -/

theorem socketWordCode_append (c : BitVec 4) (body : BitVec 28) : socketWordCode (c ++ body) = c := by
  rw [socketWordCode, BitVec.extractLsb'_append_eq_of_le (by decide)]
  exact BitVec.extractLsb'_eq_self

theorem socketWordResult_append (c : BitVec 4) (body : BitVec 28) :
    socketWordResult (c ++ body) = resultOfCode (body.extractLsb' 0 4) := by
  rw [socketWordResult, BitVec.extractLsb'_append_eq_of_add_le (by decide)]

theorem resultOfCode_class {v : BitVec 4} {c : ClassIx} (h : v.toNat = c.val) : resultOfCode v = some (.cls c) := by
  simp only [resultOfCode, h, c.isLt, dif_pos]

theorem resultOfCode_isSome_iff (v : BitVec 4) : (resultOfCode v).isSome = true ↔ v.toNat ≤ 8 := by
  revert v
  decide

theorem socketCommandOfCode_code (c : SocketCommand) : socketCommandOfCode c.code = some c := by
  cases c <;> rfl

theorem socketCommandOfCode_unnamed {v : BitVec 4} (h : v.toNat = 0 ∨ 6 < v.toNat) : socketCommandOfCode v = none := by
  revert v
  decide

theorem socketWordCommand_socketWord {c : SocketCommand} (hc : c ≠ .result) (body : BitVec 28) :
    socketWordCommand (socketWord c body) = some c := by
  rw [socketWordCommand, socketWord, socketWordCode_append, socketCommandOfCode_code]
  cases c <;> first | rfl | exact absurd rfl hc

theorem socketWordCommand_result {body : BitVec 28} (hr : (body.extractLsb' 0 4).toNat ≤ 8) :
    socketWordCommand (socketWord .result body) = some .result := by
  rw [socketWordCommand, socketWord, socketWordCode_append, socketCommandOfCode_code, socketWordResult_append]
  exact if_pos ((resultOfCode_isSome_iff _).mpr hr)

/-- A word names no command where its command code names none, or where it is RESULT and its result code names none. -/
theorem socketWordCommand_unnamed {w : Word} (h : (w.extractLsb' 28 4).toNat = 0 ∨ 6 < (w.extractLsb' 28 4).toNat ∨
    (w.extractLsb' 28 4 = 4 ∧ 8 < (w.extractLsb' 0 4).toNat)) : socketWordCommand w = none := by
  unfold socketWordCommand
  obtain hcode | hcode | ⟨hcode, hresult⟩ := h
  · rw [socketWordCode, socketCommandOfCode_unnamed (.inl hcode)]
  · rw [socketWordCode, socketCommandOfCode_unnamed (.inr hcode)]
  · rw [socketWordCode, hcode, show socketCommandOfCode 4 = some .result from rfl]
    refine if_neg fun hsome => ?_
    exact absurd ((resultOfCode_isSome_iff _).mp hsome) (Nat.not_le.mpr hresult)

/-! ### A command's answer (R107) -/

section

variable {c : SocketCommand} {i : SocketIx} {w : Word} {s : State}

theorem socketCommandWrite_unnamed (hw : socketWordCommand w = none) :
    socketCommandWrite i w s = socketAnswered s i w .badCommand := by
  rw [socketCommandWrite, hw]
  rfl

theorem socketCommandWrite_setup (hw : socketWordCommand w = some c) (hm : s.mode = .setup) :
    socketCommandWrite i w s = socketAnswered s i w .mode := by
  have hmode : (passWrite .controller (socketCommandAddr i) w s).mode = .setup := hm
  simp only [socketCommandWrite, hw, hmode]
  rfl

theorem socketCommandWrite_run (hw : socketWordCommand w = some c) (hm : s.mode = .run) :
    socketCommandWrite i w s = finishSocketCommand i (written s (socketCommandAddr i) w)
      (socketAnswer c i w (written s (socketCommandAddr i) w)) := by
  have hmode : (passWrite .controller (socketCommandAddr i) w s).mode = .run := hm
  simp only [socketCommandWrite, hw, hmode]
  rfl

end

/-- The row of a socket command. -/
def SocketCommand.row (c : SocketCommand) (i : SocketIx) (body : BitVec 28) : Instr :=
  match c with
  | .enable => .enable i body
  | .disable => .disable i body
  | .start => .start i body
  | .result => .result i body
  | .abort => .abort i body
  | .clearFault => .clearFault i body

section

variable {c : SocketCommand} {i : SocketIx} {body : BitVec 28} {s t : State} {r : SocketResult}

theorem exec_row (c : SocketCommand) (i : SocketIx) (body : BitVec 28) (s : State) :
    exec (c.row i body) s = .next (socketCommandWrite i (socketWord c body) s) := by
  cases c <;> rfl

theorem exec_row_setup (hw : socketWordCommand (socketWord c body) = some c) (hm : s.mode = .setup) :
    exec (c.row i body) s = .next (socketAnswered s i (socketWord c body) .mode) := by
  rw [exec_row, socketCommandWrite_setup hw hm]

theorem exec_row_refused (hw : socketWordCommand (socketWord c body) = some c) (hm : s.mode = .run)
    (ha : socketAnswer c i (socketWord c body) (written s (socketCommandAddr i) (socketWord c body)) = .refused r) :
    exec (c.row i body) s = .next (socketAnswered s i (socketWord c body) r) := by
  rw [exec_row, socketCommandWrite_run hw hm, ha]
  rfl

theorem exec_row_accepted (hw : socketWordCommand (socketWord c body) = some c) (hm : s.mode = .run)
    (ha : socketAnswer c i (socketWord c body) (written s (socketCommandAddr i) (socketWord c body)) = .accepted t) :
    exec (c.row i body) s = .next (recordSocketResult i .accepted t) := by
  rw [exec_row, socketCommandWrite_run hw hm, ha]
  rfl

end

/-! ### The refusals by the socket's state (R108 to R113) -/

section

variable {i : SocketIx} {s : State}

theorem enableSocket_state (h : s.sockets[i].phase.code ≠ 0) : enableSocket i s = .refused .state := by
  unfold enableSocket
  split
  next hp => exact absurd (congrArg Phase.code hp) h
  next => rfl

theorem disableSocket_state (h : s.sockets[i].phase.code ≠ 1) : disableSocket i s = .refused .state := by
  unfold disableSocket
  split
  next hp => exact absurd (congrArg Phase.code hp) h
  next => rfl

theorem startTest_notSeated (h : s.sockets[i].phase.code = 2 ∨ s.sockets[i].phase.code = 6) :
    startTest i s = .refused .notSeated := by
  unfold startTest
  generalize s.sockets[i].phase = p at h ⊢
  cases p
  case seating | vacating => rfl
  all_goals exact absurd h (by simp [Phase.code])

theorem startTest_state (h : s.sockets[i].phase.code ∉ [2, 3, 6]) : startTest i s = .refused .state := by
  unfold startTest
  generalize s.sockets[i].phase = p at h ⊢
  cases p
  case loaded | seating | vacating => exact absurd (by simp [Phase.code]) h
  all_goals rfl

theorem giveResult_state (h : s.sockets[i].phase.code ≠ 4) (r : UnitResult) : giveResult i r s = .refused .state := by
  unfold giveResult
  split
  next hp => exact absurd (congrArg Phase.code hp) h
  next => rfl

theorem abortTest_state (h : s.sockets[i].phase.code ≠ 4) : abortTest i s = .refused .state := by
  unfold abortTest
  split
  next hp => exact absurd (congrArg Phase.code hp) h
  next => rfl

theorem clearSocketFault_state (h : s.sockets[i].phase.code ≠ 7) : clearSocketFault i s = .refused .state := by
  unfold clearSocketFault
  split
  next hp => exact absurd (congrArg Phase.code hp) h
  next => rfl

end

theorem socketAnswer_result {i : SocketIx} {body : BitVec 28} {r : UnitResult}
    (hr : resultOfCode (body.extractLsb' 0 4) = some r) (s : State) :
    socketAnswer .result i (socketWord .result body) s = giveResult i r s := by
  simp only [socketAnswer, socketWord, socketWordResult_append, hr]

/-- Settles O26: a word that names no command, a command in SETUP, and in RUN each command outside its states. -/
theorem socketCommandsRefused : Obligations.SocketCommandsRefused := by
  unfold Obligations.SocketCommandsRefused
  intro i s
  refine ⟨fun w hw => congrArg Host.Outcome.next (socketCommandWrite_unnamed (socketWordCommand_unnamed hw)),
    fun body => ⟨fun hm => ?_, fun hm => ?_⟩⟩
  · have hmode : ∀ c : SocketCommand, c ≠ .result →
        exec (c.row i body) s = .next (socketAnswered s i (socketWord c body) .mode) := fun c hc =>
      exec_row_setup (socketWordCommand_socketWord hc body) hm
    exact ⟨hmode .enable (by decide), hmode .disable (by decide), hmode .start (by decide),
      fun hr => exec_row_setup (socketWordCommand_result hr) hm, hmode .abort (by decide),
      hmode .clearFault (by decide)⟩
  · have hrefused : ∀ (c : SocketCommand) {r : SocketResult}, c ≠ .result →
        socketAnswer c i (socketWord c body) (written s (socketCommandAddr i) (socketWord c body)) = .refused r →
        exec (c.row i body) s = .next (socketAnswered s i (socketWord c body) r) := fun c _ hc =>
      exec_row_refused (socketWordCommand_socketWord hc body) hm
    refine ⟨fun h => hrefused .enable (by decide) (enableSocket_state h),
      fun h => hrefused .disable (by decide) (disableSocket_state h),
      fun h => hrefused .start (by decide) (startTest_notSeated h),
      fun h => hrefused .start (by decide) (startTest_state h),
      fun h => ⟨fun hr => exec_row_refused (socketWordCommand_result hr) hm ?_,
        hrefused .abort (by decide) (abortTest_state h)⟩,
      fun h => hrefused .clearFault (by decide) (clearSocketFault_state h)⟩
    obtain ⟨r, hresult⟩ := Option.isSome_iff_exists.mp ((resultOfCode_isSome_iff _).mpr hr)
    rw [socketAnswer_result hresult]
    exact giveResult_state (s := written s _ _) h r

/-! ### Accepted commands (R108 to R113) -/

/-- The level a socket in this state expects of its line where no current leg names it (R142). -/
def Phase.expects : Phase → Option Bool
  | .empty => some false
  | .loaded _ | .testing _ | .tested _ => some true
  | .disabled | .seating _ _ _ | .vacating _ _ | .fault _ _ => none

theorem expectedLevel_presence (s : State) (i : SocketIx) :
    expectedLevel s (.presence i) = s.sockets[i].phase.expects := by
  unfold expectedLevel Phase.expects
  rfl

theorem expectedLevel_of_watchedLevel {s : State} {l : Line} {e : Bool} (h : watchedLevel s l = some e) :
    expectedLevel s l = some e := by
  unfold watchedLevel at h
  split_ifs at h
  exact h

/-- Where a changed socket's line is unwatched or agrees, the command's comparison leaves it QUIET (R143). -/
theorem commandPhase_eq_resettled {i : SocketIx} {p : Phase} {s : State}
    (h : ¬ (s.sockets[i].phase.seated = true ∧ p.seated = true))
    (hlevel : ∀ e, p.expects = some e → s.level (.presence i) = e) : commandPhase i p s = resettled i p s := by
  have hquiet : (resettled i p s).sensor (.presence i) = .quiet := congrArg Socket.sensor (sockets_resettled_same i p s)
  rw [commandPhase, changePhase_eq_resettled h]
  cases hw : watchedLevel (resettled i p s) (.presence i) with
  | none => rw [compareLine_unwatched hw, if_pos hquiet]
  | some e =>
    have he := expectedLevel_of_watchedLevel hw
    rw [expectedLevel_presence, sockets_resettled_same] at he
    rw [compareLine_agrees (s := resettled i p s) hw (hlevel e he), hquiet]
    rfl

section

variable {i : SocketIx} {s : State}

/-- The state after an accepted command took socket i to p by a change that does not keep its sub-state. -/
def resettledAccepted (i : SocketIx) (p : Phase) (s : State) : State :=
  { s with
    sockets := s.sockets.set i { s.sockets[i] with phase := p, sensor := .quiet, lastResult := .accepted }
    heads := (dropOpenEntries (.presence i) s).heads }

theorem recordSocketResult_resettled (i : SocketIx) (p : Phase) (s : State) :
    recordSocketResult i .accepted (resettled i p s) = resettledAccepted i p s := by
  rw [recordSocketResult, sockets_resettled_same]
  simp only [resettled, resettledAccepted, State.setSocket, Vector.set_set]

theorem recordSocketResult_withTable (r : SocketResult) (t : Vector (Option CaptureEntry) 4 × Bool) :
    recordSocketResult i r (withTable s t) = withTable (recordSocketResult i r s) t := rfl

theorem recordSocketResult_setSocket (r : SocketResult) (x : Socket) :
    recordSocketResult i r (s.setSocket i x) = s.setSocket i { x with lastResult := r } := by
  rw [recordSocketResult, sockets_setSocket_same, setSocket_setSocket]

theorem heads_resettledAccepted (i : SocketIx) (p : Phase) (s : State) (g : HeadIx) :
    (resettledAccepted i p s).heads[g] = s.heads[g].withoutOpen (.presence i) :=
  heads_resettled i p s g

theorem enableSocket_occupied (hp : s.sockets[i].phase = .disabled) (hon : s.level (.presence i) = true) :
    enableSocket i s = .accepted (captureFault (strayAt i) (resettled i (.fault .stray none) s)) := by
  have hnot : ¬ (s.sockets[i].phase.seated = true ∧ (Phase.fault .stray none).seated = true) := fun h => by cases h.2
  unfold enableSocket
  simp only [hp, seated, hon, if_true]
  rw [commandPhase_eq_resettled hnot fun e he => by cases he]
  rfl

theorem enableSocket_clear (hp : s.sockets[i].phase = .disabled) (hoff : s.level (.presence i) = false) :
    enableSocket i s = .accepted (resettled i .empty s) := by
  have hnot : ¬ (s.sockets[i].phase.seated = true ∧ Phase.empty.seated = true) := fun h => by cases h.2
  unfold enableSocket
  simp only [hp, seated, hoff, if_neg Bool.false_ne_true]
  rw [commandPhase_eq_resettled hnot fun e he => by cases he; exact hoff]

theorem disableSocket_busy (hp : s.sockets[i].phase = .empty)
    (hbusy : s.sockets[i].reservation ≠ none ∨ s.socketWaiters[i] ≠ []) : disableSocket i s = .refused .busy := by
  unfold disableSocket
  simp only [hp]
  refine if_neg fun h => ?_
  rw [Bool.and_eq_true, Option.isNone_iff_eq_none, List.isEmpty_iff] at h
  exact hbusy.elim (absurd h.1) (absurd h.2)

theorem disableSocket_free (hp : s.sockets[i].phase = .empty) (hfree : s.sockets[i].reservation = none)
    (hwait : s.socketWaiters[i] = []) : disableSocket i s = .accepted (resettled i .disabled s) := by
  have hnot : ¬ (s.sockets[i].phase.seated = true ∧ Phase.disabled.seated = true) := fun h => by cases h.2
  unfold disableSocket
  simp only [hp, hfree, hwait, Option.isNone_none, List.isEmpty_nil, Bool.and_self, if_true]
  rw [commandPhase_eq_resettled hnot fun e he => by cases he]

end

/-- Settles O23: ENABLE by the filtered presence, DISABLE by the reservation and the wait list. -/
theorem enableAndDisableSocket : Obligations.EnableAndDisableSocket := by
  unfold Obligations.EnableAndDisableSocket
  intro i body s hm
  have henable : socketWordCommand (socketWord .enable body) = some .enable :=
    socketWordCommand_socketWord (by decide) body
  have hdisable : socketWordCommand (socketWord .disable body) = some .disable :=
    socketWordCommand_socketWord (by decide) body
  refine ⟨fun hp => ?_, fun hp => ⟨fun hbusy => ?_, fun hfree hwait => ?_⟩⟩
  · cases hlevel : s.level (.presence i) with
    | true =>
      refine ⟨_, exec_row_accepted henable hm (enableSocket_occupied hp hlevel), ?_⟩
      rw [captureFault_headless rfl, recordSocketResult_withTable, recordSocketResult_resettled]
      refine ⟨rfl, heads_resettledAccepted i (.fault .stray none) _, ?_⟩
      rw [captureFault_headless rfl]
      exact ⟨rfl, rfl⟩
    | false =>
      refine ⟨_, exec_row_accepted henable hm (enableSocket_clear hp hlevel), ?_⟩
      rw [recordSocketResult_resettled]
      exact ⟨rfl, heads_resettledAccepted i .empty _, rfl, rfl⟩
  · exact exec_row_refused hdisable hm (disableSocket_busy hp hbusy)
  · refine ⟨_, exec_row_accepted hdisable hm (disableSocket_free hp hfree hwait), ?_⟩
    rw [recordSocketResult_resettled]
    exact ⟨rfl, heads_resettledAccepted i .disabled _⟩

section

variable {i : SocketIx} {s : State} {u : UnitRec}

theorem startTest_loaded (hp : s.sockets[i].phase = .loaded u) :
    startTest i s = .accepted (s.setSocket i { s.sockets[i] with phase := .testing u }) := by
  unfold startTest
  simp only [hp]
  rw [changePhase_seated (by rw [hp]; rfl) rfl]

theorem giveResult_testing (hp : s.sockets[i].phase = .testing u) (r : UnitResult) :
    giveResult i r s = .accepted
      (s.setSocket i { s.sockets[i] with phase := .tested { u with result := some (resultFor s u r) } }) := by
  unfold giveResult
  simp only [hp]
  rw [changePhase_seated (by rw [hp]; rfl) rfl]

theorem abortTest_testing (hp : s.sockets[i].phase = .testing u) :
    abortTest i s = .accepted (s.setSocket i { s.sockets[i] with phase := .loaded u }) := by
  unfold abortTest
  simp only [hp]
  rw [changePhase_seated (by rw [hp]; rfl) rfl]

end

/-- RETEST stands while the unit may be inserted again, and gives way to the overflow class after that (R111, R128). -/
theorem resultFor_retest (s : State) (u : UnitRec) :
    (u.insertions < s.limits.retest → resultFor s u .retest = .retest) ∧
      (s.limits.retest ≤ u.insertions → resultFor s u .retest = .cls (overflowClass s)) :=
  ⟨fun h => if_pos h, fun h => if_neg (BitVec.not_lt.mpr h)⟩

theorem overflowClass_val {s : State} (h : s.limits.overflowClass.toNat < 8) :
    (overflowClass s).val = s.limits.overflowClass.toNat := Nat.mod_eq_of_lt h

/-- Settles O24: each command by the one state in which it is accepted, and RESULT by its result code. -/
theorem testCommandsMoveSocket : Obligations.TestCommandsMoveSocket := by
  unfold Obligations.TestCommandsMoveSocket
  intro i body s u hm
  have hstart : socketWordCommand (socketWord .start body) = some .start :=
    socketWordCommand_socketWord (by decide) body
  have habort : socketWordCommand (socketWord .abort body) = some .abort :=
    socketWordCommand_socketWord (by decide) body
  have hresult : ∀ {r : UnitResult}, resultOfCode (body.extractLsb' 0 4) = some r → s.sockets[i].phase = .testing u →
      exec (.result i body) s = .next
        { written s (0x80 + 4 * i) (4#4 ++ body) with
          sockets := s.sockets.set i
            { s.sockets[i] with
              phase := .tested { u with result := some (resultFor s u r) }, lastResult := .accepted } } := by
    intro r hr hp
    have hnamed := socketWordCommand_result ((resultOfCode_isSome_iff _).mp (by rw [hr]; rfl))
    refine (exec_row_accepted hnamed hm
      ((socketAnswer_result hr _).trans (giveResult_testing (s := written s _ _) hp r))).trans ?_
    rw [recordSocketResult_setSocket]
    rfl
  refine ⟨fun hp => ?_, fun hp => ?_, fun hp c hc => hresult (resultOfCode_class hc) hp, fun hp hcode hover => ?_⟩
  · refine (exec_row_accepted hstart hm (startTest_loaded (s := written s _ _) hp)).trans ?_
    rw [recordSocketResult_setSocket]
    rfl
  · refine (exec_row_accepted habort hm (abortTest_testing (s := written s _ _) hp)).trans ?_
    rw [recordSocketResult_setSocket]
    rfl
  · obtain ⟨hbelow, hspent⟩ := resultFor_retest s u
    exact ⟨_, hresult (r := .retest) (by rw [hcode]; rfl) hp, hbelow,
      fun h => ⟨overflowClass s, hspent h, overflowClass_val hover⟩⟩

section

variable {i : SocketIx} {s : State} {why : FaultReason} {u : Option UnitRec}

theorem clearSocketFault_busy (hp : s.sockets[i].phase = .fault why u) (hres : s.sockets[i].reservation ≠ none) :
    clearSocketFault i s = .refused .busy := by
  unfold clearSocketFault
  simp only [hp, Option.isSome_iff_ne_none.mpr hres, if_true]

theorem clearSocketFault_stillPresent (hp : s.sockets[i].phase = .fault why none)
    (hres : s.sockets[i].reservation = none) (hon : s.level (.presence i) = true) :
    clearSocketFault i s = .refused .stillPresent := by
  unfold clearSocketFault
  simp only [hp, hres, seated, hon, Option.isSome_none, if_neg Bool.false_ne_true]

theorem clearSocketFault_kept {v : UnitRec} (hp : s.sockets[i].phase = .fault why (some v))
    (hres : s.sockets[i].reservation = none) (hon : s.level (.presence i) = true) :
    clearSocketFault i s = .accepted (resettled i (clearedPhase v) s) := by
  have hnot : ¬ (s.sockets[i].phase.seated = true ∧ (clearedPhase v).seated = true) := fun h => by
    rw [hp] at h
    cases h.1
  have hexpects : (clearedPhase v).expects = some true := by
    unfold clearedPhase
    split_ifs <;> rfl
  unfold clearSocketFault
  simp only [hp, hres, seated, hon, Option.isSome_none, if_neg Bool.false_ne_true]
  rw [commandPhase_eq_resettled hnot fun e he => hon.trans (Option.some.inj (hexpects.symm.trans he))]

theorem countDiscards_zero (s : State) : countDiscards 0 s = s := by
  simp [countDiscards]

theorem clearSocketFault_discards (hp : s.sockets[i].phase = .fault why u) (hres : s.sockets[i].reservation = none)
    (hoff : s.level (.presence i) = false) :
    clearSocketFault i s = .accepted (resettled i .empty (countDiscards u.toList.length s)) := by
  have hnot : ¬ (s.sockets[i].phase.seated = true ∧ Phase.empty.seated = true) := fun h => by cases h.2
  unfold clearSocketFault
  simp only [hp, hres, seated, hoff, Option.isSome_none, if_neg Bool.false_ne_true]
  rw [commandPhase_eq_resettled (s := countDiscards _ s) hnot fun e he => by cases he; exact hoff]

end

/-- Settles O25: by the reservation, the filtered presence and the unit in FAULT. -/
theorem clearFaultSettlesSocket : Obligations.ClearFaultSettlesSocket := by
  unfold Obligations.ClearFaultSettlesSocket
  intro i body s why u hm hp
  have hnamed : socketWordCommand (socketWord .clearFault body) = some .clearFault :=
    socketWordCommand_socketWord (by decide) body
  refine ⟨fun hres => exec_row_refused hnamed hm (clearSocketFault_busy hp hres), fun hres hon hu => ?_,
    fun hres hmoves => ?_⟩
  · subst hu
    exact exec_row_refused hnamed hm (clearSocketFault_stillPresent hp hres hon)
  · cases hlevel : s.level (.presence i) with
    | false =>
      refine ⟨_, exec_row_accepted hnamed hm (clearSocketFault_discards hp hres hlevel), ?_⟩
      rw [recordSocketResult_resettled]
      refine ⟨?_, heads_resettledAccepted i .empty _⟩
      cases u with
      | none => exact congrArg (resettledAccepted i .empty) (countDiscards_zero _)
      | some v => rfl
    | true =>
      cases u with
      | none => exact absurd (hlevel.symm.trans (hmoves.resolve_right fun h => h rfl)) (by decide)
      | some v =>
        refine ⟨_, exec_row_accepted hnamed hm (clearSocketFault_kept hp hres hlevel), ?_⟩
        rw [recordSocketResult_resettled]
        exact ⟨rfl, heads_resettledAccepted i _ _⟩

end Sys2Proof.Machine

/-! A filtered level change taken, and a disturbance timer run out: what each leaves of the owners and of the heads, and
the line, its owner and the heads after it. -/

namespace Sys2Proof.Machine

/-! ### States that agree but for a few records -/

theorem OnlyLineRecords.eq_with {s t : State} (h : OnlyLineRecords s t) :
    t = { s with sockets := t.sockets, nozzles := t.nozzles, heads := t.heads } := by
  cases t
  cases h
  simp_all

theorem OnlyOwners.eq_with {s t : State} (h : OnlyOwners s t) :
    t = { s with
      sockets := t.sockets, nozzles := t.nozzles, heads := t.heads
      capture := t.capture, overflow := t.overflow, headsSeen := t.headsSeen } := by
  cases t
  cases h
  simp_all

theorem sensor_of_owners {s t : State} (hsockets : t.sockets = s.sockets) (hnozzles : t.nozzles = s.nozzles)
    (m : Line) : t.sensor m = s.sensor m := by
  cases m <;> simp only [State.sensor, State.nozzle, hsockets, hnozzles]

theorem filter_of_filters {s t : State} (hpresence : t.presence = s.presence) (hgrips : t.grips = s.grips) (m : Line) :
    t.filter m = s.filter m := by
  cases m <;> simp only [State.filter, hpresence, hgrips]

/-! ### Charges (R145) -/

theorem heads_chargeOpen (l : Line) (s : State) (g : HeadIx) : (chargeOpen l s).heads[g] =
    if headConcerned s l = some g then s.heads[g].chargedOpen l else s.heads[g] := by
  unfold chargeOpen
  split
  next h hc =>
    rw [hc, State.setHead_heads, getElem_set_fin]
    split_ifs with hg hh hh
    · rw [hg]
    · exact absurd (congrArg some hg.symm) hh
    · exact absurd (Option.some.inj hh).symm hg
    · rfl
  next hc => rw [hc, if_neg (Option.some_ne_none g).symm]

/-- Head record t is r but for its stray source set and the cause STRAY. -/
structure HeadRec.SameButStray (r t : HeadRec) : Prop where
  online : t.online = r.online
  faulted : t.faulted = r.faulted
  resting : t.resting = r.resting
  causes : ∀ n : Nat, 0 < n → t.causes.getLsbD n = r.causes.getLsbD n

theorem HeadRec.SameButStray.refl (r : HeadRec) : r.SameButStray r := ⟨rfl, rfl, rfl, fun _ _ => rfl⟩

theorem getLsbD_one_of_pos {n : Nat} (h : 0 < n) : (1 : BitVec 6).getLsbD n = false := by
  simp [BitVec.getLsbD_one, Nat.pos_iff_ne_zero.mp h]

theorem HeadRec.chargedOpen_sameButStray (r : HeadRec) (l : Line) : r.SameButStray (r.chargedOpen l) where
  online := rfl
  faulted := rfl
  resting := rfl
  causes n hn := by
    show (r.causes ||| 1).getLsbD n = _
    rw [BitVec.getLsbD_or, getLsbD_one_of_pos hn, Bool.or_false]

theorem HeadRec.withoutOpen_sameButStray (r : HeadRec) (l : Line) : r.SameButStray (r.withoutOpen l) := by
  by_cases h : r.stray[strayIx l] = some .opened
  · rw [HeadRec.withoutOpen_of_open h]
    refine ⟨rfl, rfl, rfl, fun n hn => ?_⟩
    dsimp only
    split_ifs
    · rw [BitVec.getLsbD_and, BitVec.getLsbD_not, getLsbD_one_of_pos hn]
      by_cases hlt : n < 6
      · simp [hlt]
      · simp [BitVec.getLsbD_of_ge r.causes n (Nat.not_lt.mp hlt)]
    · rfl
  · rw [HeadRec.withoutOpen_of_not_open h]
    exact .refl r

/-! ### What a comparison leaves (R143, R146 to R148) -/

/-- Nothing differs but line l's sub-state and the heads' stray source sets with their cause STRAY. -/
structure OnlySensor (l : Line) (s t : State) : Prop where
  frame : OnlyLineRecords s t
  sensor : ∀ m, m ≠ l → t.sensor m = s.sensor m
  content : ∀ h n, (t.nozzle h n).content = (s.nozzle h n).content
  socket : ∀ i : SocketIx, t.sockets[i].reservation = s.sockets[i].reservation ∧
    t.sockets[i].lastResult = s.sockets[i].lastResult ∧ t.sockets[i].phase = s.sockets[i].phase
  heads : ∀ g : HeadIx, s.heads[g].SameButStray t.heads[g]

section

variable {l : Line} {s t : State}

theorem OnlySensor.refl : OnlySensor l s s :=
  ⟨.refl, fun _ _ => rfl, fun _ _ => rfl, fun _ => ⟨rfl, rfl, rfl⟩, fun _ => .refl _⟩

/-- A change of head records that follows keeps what is kept. -/
theorem OnlySensor.then_heads {u : State} (h : OnlySensor l s t) (frame : OnlyLineRecords t u)
    (hsockets : u.sockets = t.sockets) (hnozzles : u.nozzles = t.nozzles)
    (hheads : ∀ g : HeadIx, s.heads[g].SameButStray u.heads[g]) : OnlySensor l s u where
  frame := h.frame.trans frame
  sensor m hm := (sensor_of_owners hsockets hnozzles m).trans (h.sensor m hm)
  content g n := by rw [State.nozzle, hnozzles]; exact h.content g n
  socket i := by rw [hsockets]; exact h.socket i
  heads := hheads

end

theorem setSensor_onlySensor (l : Line) (x : Sensor) (s : State) : OnlySensor l s (setSensor l x s) where
  frame := setSensor_only l x s
  sensor m hm := by rw [sensor_setSensor, if_neg hm]
  content g n := by
    cases l with
    | presence i => rfl
    | grip h k =>
      rw [setSensor, State.nozzle_setNozzle]
      split_ifs with hn
      · rw [hn.1, hn.2]
      · rfl
  socket i := by
    cases l with
    | presence j =>
      rw [setSensor, State.setSocket_sockets, getElem_set_fin]
      split_ifs with hi
      · rw [hi]; exact ⟨rfl, rfl, rfl⟩
      · exact ⟨rfl, rfl, rfl⟩
    | grip h k => exact ⟨rfl, rfl, rfl⟩
  heads g := by cases l <;> exact .refl _

theorem heads_setSensor (l : Line) (x : Sensor) (s : State) : (setSensor l x s).heads = s.heads := by
  cases l <;> rfl

theorem quietLine_onlySensor (l : Line) (s : State) : OnlySensor l s (quietLine l s) := by
  refine (setSensor_onlySensor l .quiet s).then_heads (dropOpenEntries_only l _) rfl rfl fun g => ?_
  rw [quietLine, heads_dropOpenEntries, heads_setSensor]
  split_ifs
  · exact HeadRec.withoutOpen_sameButStray _ l
  · exact .refl _

theorem disturbLine_onlySensor (l : Line) (s : State) : OnlySensor l s (disturbLine l s) := by
  have hnozzles : ∀ t, (chargeOpen l t).nozzles = t.nozzles := by
    intro t
    unfold chargeOpen
    split <;> rfl
  refine (setSensor_onlySensor l _ s).then_heads (chargeOpen_only l _) (sockets_chargeOpen l _) (hnozzles _) fun g => ?_
  rw [disturbLine, heads_chargeOpen, heads_setSensor]
  split_ifs
  · exact HeadRec.chargedOpen_sameButStray _ l
  · exact .refl _

theorem compareLine_onlySensor (l : Line) (s : State) : OnlySensor l s (compareLine l s) := by
  unfold compareLine
  split
  · split
    · exact .refl
    · exact quietLine_onlySensor l s
  · split_ifs
    · split
      · exact setSensor_onlySensor l _ s
      · exact .refl
    · split
      · exact .refl
      · exact disturbLine_onlySensor l s

/-! ### Sub-states after a comparison -/

theorem sensor_quietLine (l : Line) (s : State) : (quietLine l s).sensor l = .quiet :=
  (sensor_setSensor l l .quiet s).trans (if_pos rfl)

theorem sensor_disturbLine (l : Line) (s : State) : (disturbLine l s).sensor l = .disturbed (disturbTicks s) := by
  have hcharged : ∀ t, (chargeOpen l t).sensor l = t.sensor l := by
    intro t
    unfold chargeOpen
    split <;> exact sensor_of_owners rfl rfl l
  rw [disturbLine, hcharged, sensor_setSensor, if_pos rfl]

theorem sensor_compareLine_unwatched {l : Line} {s : State} (hw : watchedLevel s l = none) :
    (compareLine l s).sensor l = .quiet := by
  rw [compareLine_unwatched hw]
  split_ifs with hquiet
  · exact hquiet
  · exact sensor_quietLine l s

theorem headConcerned_setSensor (l m : Line) (x : Sensor) (s : State) :
    headConcerned (setSensor l x s) m = headConcerned s m := by
  cases l <;> cases m <;> rfl

theorem heads_disturbLine (l : Line) (s : State) (g : HeadIx) : (disturbLine l s).heads[g] =
    if headConcerned s l = some g then s.heads[g].chargedOpen l else s.heads[g] := by
  rw [disturbLine, heads_chargeOpen, headConcerned_setSensor, heads_setSensor]

/-! ### A filtered level change (R118, R120, R140) -/

/-- The state as line l's sampled level is taken into its filter (R140). -/
def levelTaken (l : Line) (s : State) : State :=
  setFilter l { raw := (s.filter l).raw, filtered := (s.filter l).raw, run := 0, changeDue := false } s

theorem takeLevelChange_due {l : Line} {s : State} (h : (s.filter l).changeDue = true) :
    takeLevelChange l s = compareLine l (ownerOnChange l (s.filter l).raw (levelTaken l s)) :=
  if_pos h

section

variable (l : Line) (s : State)

theorem level_levelTaken : (levelTaken l s).level l = (s.filter l).raw := by
  rw [State.level, levelTaken, filter_setFilter, if_pos rfl]

theorem watchedLevel_levelTaken (m : Line) : watchedLevel (levelTaken l s) m = watchedLevel s m := by
  cases l <;> cases m <;> rfl

theorem sensor_levelTaken (m : Line) : (levelTaken l s).sensor m = s.sensor m := by
  cases l <;> cases m <;> rfl

theorem headConcerned_levelTaken (m : Line) : headConcerned (levelTaken l s) m = headConcerned s m := by
  cases l <;> cases m <;> rfl

theorem nozzle_levelTaken (h : HeadIx) (n : NozzleId) : (levelTaken l s).nozzle h n = s.nozzle h n := by
  cases l <;> rfl

theorem sockets_levelTaken : (levelTaken l s).sockets = s.sockets := by
  cases l <;> rfl

theorem heads_levelTaken : (levelTaken l s).heads = s.heads := by
  cases l <;> rfl

theorem limits_levelTaken : (levelTaken l s).limits = s.limits := by
  cases l <;> rfl

variable {l s}

theorem eq_with_of_levelTaken {t : State} (h : OnlyLineRecords (levelTaken l s) t) :
    t = { s with
      presence := t.presence, grips := t.grips, sockets := t.sockets, nozzles := t.nozzles, heads := t.heads } := by
  refine h.eq_with.trans ?_
  rw [h.presence, h.grips]
  cases l <;> rfl

theorem filter_of_levelTaken {t : State} (h : OnlyLineRecords (levelTaken l s) t) (m : Line) : t.filter m =
    if m = l then { raw := (s.filter l).raw, filtered := (s.filter l).raw, run := 0, changeDue := false }
    else s.filter m :=
  (filter_of_filters h.presence h.grips m).trans (filter_setFilter l m _ s)

end

/-- The phase in which a change of presence to a level leaves a socket (R118, R120). -/
def Phase.seen (p : Phase) (level : Bool) : Phase :=
  match p, level with
  | .seating u _ _, true => .loaded u
  | .vacating _ _, false => .empty
  | x, _ => x

theorem Phase.seen_cases (p : Phase) (level : Bool) : p.seen level = p ∨
    p.expects = none ∧ p.seated = false ∧ ∀ e, (p.seen level).expects = some e → level = e := by
  cases p
  case seating =>
    cases level
    · exact .inl rfl
    · exact .inr ⟨rfl, rfl, fun e he => Option.some.inj he⟩
  case vacating =>
    cases level
    · exact .inr ⟨rfl, rfl, fun e he => Option.some.inj he⟩
    · exact .inl rfl
  all_goals exact .inl rfl

theorem seatVacate_eq (i : SocketIx) (level : Bool) (s : State) : seatVacate i level s =
    if s.sockets[i].phase.seen level = s.sockets[i].phase then s
    else changePhase i (s.sockets[i].phase.seen level) s := by
  unfold seatVacate
  split
  next hp => rw [hp]; exact (if_neg (by simp [Phase.seen])).symm
  next hp => rw [hp]; exact (if_neg (by simp [Phase.seen])).symm
  next hseating hvacating =>
    refine (if_pos ?_).symm
    unfold Phase.seen
    split
    next hp => exact absurd rfl (hseating _ _ _ hp)
    next hp => exact absurd rfl (hvacating _ _ hp)
    next => rfl

/-- A due change either leaves the owner's state and has the line compared, or takes a SEATING or VACATING socket to a
state in which its line is QUIET (R118, R120, R143). -/
theorem takeLevelChange_cases {l : Line} {s : State} (hdue : (s.filter l).changeDue = true) :
    (takeLevelChange l s = compareLine l (levelTaken l s) ∧
      ∀ i, l = .presence i → s.sockets[i].phase.seen (s.filter l).raw = s.sockets[i].phase) ∨
    ∃ i, l = .presence i ∧ expectedLevel s l = none ∧
      takeLevelChange l s = resettled i (s.sockets[i].phase.seen (s.filter l).raw) (levelTaken l s) := by
  rw [takeLevelChange_due hdue]
  cases l with
  | grip h n => exact .inl ⟨rfl, fun i hi => nomatch hi⟩
  | presence i =>
    rw [ownerOnChange, seatVacate_eq, sockets_levelTaken, expectedLevel_presence]
    rcases (s.sockets[i].phase).seen_cases (s.filter (.presence i)).raw with hsame | ⟨hnone, hseated, hlevel⟩
    · rw [if_pos hsame]
      exact .inl ⟨rfl, fun j hj => by cases hj; exact hsame⟩
    · split_ifs with hsame
      · exact .inl ⟨rfl, fun j hj => by cases hj; exact hsame⟩
      · refine .inr ⟨i, rfl, hnone, commandPhase_eq_resettled (fun h => ?_) fun e he => ?_⟩
        · rw [sockets_levelTaken, hseated] at h
          cases h.1
        · exact (level_levelTaken (.presence i) s).trans (hlevel e he)

theorem resettled_only (i : SocketIx) (p : Phase) (s : State) : OnlyLineRecords s (resettled i p s) := by
  constructor <;> rfl

theorem sockets_resettled (i j : SocketIx) (p : Phase) (s : State) : (resettled i p s).sockets[j] =
    if j = i then { s.sockets[i] with phase := p, sensor := .quiet } else s.sockets[j] :=
  getElem_set_fin _ _ _ _

theorem sensor_resettled (i : SocketIx) (p : Phase) (s : State) (m : Line) :
    (resettled i p s).sensor m = if m = .presence i then .quiet else s.sensor m := by
  cases m with
  | grip h n => rfl
  | presence j =>
    simp only [State.sensor, sockets_resettled, Line.presence.injEq]
    split_ifs <;> rfl

theorem sensor_compareLine_watched {l : Line} {s : State} {e : Bool} (hw : watchedLevel s l = some e) :
    (s.level l ≠ e → (s.sensor l).isDisturbed = false →
      (compareLine l s).sensor l = .disturbed (disturbTicks s) ∧ ∀ g : HeadIx, (compareLine l s).heads[g] =
        if headConcerned s l = some g then s.heads[g].chargedOpen l else s.heads[g]) ∧
    (s.level l = e → (s.sensor l).isDisturbed = true →
      (compareLine l s).sensor l = .recovering (recoverTicks s) ∧ (compareLine l s).heads = s.heads) ∧
    ((s.level l = e ↔ (s.sensor l).isDisturbed = false) → compareLine l s = s) := by
  refine ⟨fun hne hd => ?_, fun he hd => ?_, fun hiff => ?_⟩
  · rw [compareLine_disagrees hw hne, hd, if_neg Bool.false_ne_true]
    exact ⟨sensor_disturbLine l s, heads_disturbLine l s⟩
  · rw [compareLine_agrees hw he, hd, if_pos rfl]
    exact ⟨(sensor_setSensor l l _ s).trans (if_pos rfl), heads_setSensor l _ s⟩
  · by_cases he : s.level l = e
    · rw [compareLine_agrees hw he, hiff.mp he, if_neg Bool.false_ne_true]
    · rw [compareLine_disagrees hw he, if_pos (Bool.of_not_eq_false fun h => he (hiff.mpr h))]

/-- Settles O43: a line that stays under its owner's rules is compared, and the seat and vacate rules leave it QUIET. -/
theorem levelChangeTaken : Obligations.LevelChangeTaken := by
  unfold Obligations.LevelChangeTaken
  intro l s hdue
  refine ⟨takeLevelChange l s, rfl, ?_⟩
  rcases takeLevelChange_cases hdue with ⟨ht, hseen⟩ | ⟨i, rfl, hnone, ht⟩
  · have hkept := compareLine_onlySensor l (levelTaken l s)
    rw [ht]
    refine ⟨eq_with_of_levelTaken hkept.frame, filter_of_levelTaken hkept.frame,
      fun m hm => (hkept.sensor m hm).trans (sensor_levelTaken l s m),
      fun h n => (hkept.content h n).trans (congrArg Nozzle.content (nozzle_levelTaken l s h n)),
      fun i => ?_, fun e he => ?_, fun hnone => ?_, fun g => ?_⟩
    · obtain ⟨hres, hlast, hphase⟩ := hkept.socket i
      rw [sockets_levelTaken] at hres hlast hphase
      refine ⟨hres, hlast, hphase.trans ?_⟩
      split_ifs with hl
      · exact (hseen i hl).symm
      · rfl
    · obtain ⟨hdisturbs, hrecovers, hstays⟩ := sensor_compareLine_watched ((watchedLevel_levelTaken l s l).trans he)
      rw [level_levelTaken, sensor_levelTaken, headConcerned_levelTaken, heads_levelTaken] at hdisturbs
      rw [level_levelTaken, sensor_levelTaken, heads_levelTaken] at hrecovers
      rw [level_levelTaken, sensor_levelTaken] at hstays
      rw [disturbTicks, limits_levelTaken] at hdisturbs
      rw [recoverTicks, limits_levelTaken] at hrecovers
      refine ⟨hdisturbs, hrecovers, fun hiff => ?_⟩
      rw [hstays hiff, sensor_levelTaken, heads_levelTaken]
      exact ⟨rfl, rfl⟩
    · exact sensor_compareLine_unwatched ((watchedLevel_levelTaken l s l).trans hnone)
    · have hhead := hkept.heads g
      rw [heads_levelTaken] at hhead
      exact ⟨hhead.online, hhead.faulted, hhead.resting, hhead.causes⟩
  · have hframe := resettled_only i (s.sockets[i].phase.seen (s.filter (.presence i)).raw) (levelTaken (.presence i) s)
    rw [ht]
    refine ⟨eq_with_of_levelTaken hframe, filter_of_levelTaken hframe, fun m hm => ?_, fun h n => ?_,
      fun j => ?_, fun e he => ?_, fun _ => ?_, fun g => ?_⟩
    · rw [sensor_resettled, if_neg hm, sensor_levelTaken]
    · rfl
    · rw [sockets_resettled, sockets_levelTaken]
      split_ifs with hj hl hl
      · subst hj
        exact ⟨rfl, rfl, rfl⟩
      · exact absurd (congrArg Line.presence hj.symm) hl
      · exact absurd (Line.presence.inj hl).symm hj
      · exact ⟨rfl, rfl, rfl⟩
    · exact absurd (hnone.symm.trans (expectedLevel_of_watchedLevel he)) (Option.some_ne_none e).symm
    · rw [sensor_resettled, if_pos rfl]
    · have hhead := HeadRec.withoutOpen_sameButStray s.heads[g] (.presence i)
      rw [heads_resettled, heads_levelTaken]
      exact ⟨hhead.online, hhead.faulted, hhead.resting, hhead.causes⟩

/-! ### A disturbance timer run out (R122, R150) -/

/-- The capture records of a state after a fault is taken depend on those before it only (R173). -/
theorem captureFault_records {s t : State} (f : FaultReport) (hcapture : t.capture = s.capture)
    (hoverflow : t.overflow = s.overflow) (hseen : t.headsSeen = s.headsSeen) :
    (captureFault f t).capture = (captureFault f s).capture ∧
      (captureFault f t).overflow = (captureFault f s).overflow ∧
      (captureFault f t).headsSeen = (captureFault f s).headsSeen := by
  cases hslot : captureSlotOf s.capture f.kind with
  | some i =>
    rw [captureFault_repeat hslot, captureFault_repeat (s := t) (hcapture ▸ hslot)]
    simp only [hcapture, hoverflow, hseen, and_self]
  | none =>
    cases hfree : captureFreeSlot s.capture with
    | some i =>
      rw [captureFault_new hslot hfree, captureFault_new (s := t) (hcapture ▸ hslot) (hcapture ▸ hfree)]
      simp only [hcapture, hoverflow, hseen, and_self]
    | none =>
      rw [captureFault_full hslot hfree, captureFault_full (s := t) (hcapture ▸ hslot) (hcapture ▸ hfree)]
      simp only [hcapture, hseen, and_self]

/-- The state as line l's disturbance timer runs out: its open entries faulted, and the head concerned
charged (R150). -/
def faultCharged (l : Line) (s : State) : State := chargeFaulted l (faultOpenEntries l s)

theorem HeadRec.chargedFaulted_openFaulted (r : HeadRec) (l : Line) :
    (r.openFaulted l).chargedFaulted l = r.chargedFaulted l := by
  by_cases h : r.stray[strayIx l] = some .opened
  · rw [HeadRec.openFaulted_of_open h]
    simp only [HeadRec.chargedFaulted, Vector.set_set]
  · rw [HeadRec.openFaulted_of_not_open h]

theorem lineConcerns_of_headConcerned {l : Line} {s : State} {g : HeadIx} (h : headConcerned s l = some g) :
    lineConcerns l g = true := by
  cases l with
  | presence i => rfl
  | grip k n => cases h; exact beq_self_eq_true _

/-- A head's record once line l has faulted. -/
def faultedRecord (l : Line) (s : State) (g : HeadIx) : HeadRec :=
  if headConcerned s l = some g then s.heads[g].chargedFaulted l
  else if lineConcerns l g then s.heads[g].openFaulted l else s.heads[g]

section

variable (l : Line) (s : State)

theorem heads_faultCharged (g : HeadIx) : (faultCharged l s).heads[g] = faultedRecord l s g := by
  have hopen : ∀ h : HeadIx, (faultOpenEntries l s).heads[h] =
      if lineConcerns l h then s.heads[h].openFaulted l else s.heads[h] := heads_mapHeadsConcerned l _ s
  have hconcerned : headConcerned (faultOpenEntries l s) l = headConcerned s l := by
    cases l <;> rfl
  unfold faultCharged chargeFaulted faultedRecord
  rw [hconcerned]
  cases hc : headConcerned s l with
  | none => rw [if_neg (Option.some_ne_none g).symm]; exact hopen g
  | some h =>
    dsimp only
    rw [State.setHead_heads, getElem_set_fin, hopen, hopen, if_pos (lineConcerns_of_headConcerned hc),
      HeadRec.chargedFaulted_openFaulted]
    by_cases hg : g = h
    · rw [if_pos hg, if_pos (congrArg some hg.symm), hg]
    · rw [if_neg hg, if_neg fun he => hg (Option.some.inj he).symm]

theorem faultCharged_only : OnlyLineRecords s (faultCharged l s) :=
  (faultOpenEntries_only l s).trans (chargeFaulted_only l _)

theorem sockets_faultCharged : (faultCharged l s).sockets = s.sockets := sockets_chargeFaulted l _

theorem nozzles_faultCharged : (faultCharged l s).nozzles = s.nozzles := by
  unfold faultCharged chargeFaulted
  split <;> rfl

theorem nozzle_faultCharged (h : HeadIx) (n : NozzleId) : (faultCharged l s).nozzle h n = s.nozzle h n := by
  rw [State.nozzle, nozzles_faultCharged]
  rfl

theorem sensor_faultCharged (m : Line) : (faultCharged l s).sensor m = s.sensor m :=
  sensor_of_owners (sockets_faultCharged l s) (nozzles_faultCharged l s) m

variable {l s}

/-- No open entry of a faulted line is left to leave. -/
theorem heads_dropOpenEntries_faulted {t : State} {g : HeadIx} (ht : t.heads[g] = faultedRecord l s g) :
    (dropOpenEntries l t).heads[g] = faultedRecord l s g := by
  rw [heads_dropOpenEntries, ht]
  split_ifs with hl
  · refine HeadRec.withoutOpen_of_not_open ?_
    unfold faultedRecord
    rw [if_pos hl]
    split_ifs
    · simp [HeadRec.chargedFaulted]
    · by_cases hopen : s.heads[g].stray[strayIx l] = some .opened
      · rw [HeadRec.openFaulted_of_open hopen]
        simp
      · rw [HeadRec.openFaulted_of_not_open hopen]
        exact hopen
  · rfl

end

/-- The fault that is captured as line l's disturbance timer runs out (R122, R150). -/
def lineFault (s : State) : Line → FaultReport
  | .presence i =>
    { kind := if s.sockets[i].phase.unit.isSome then .lostDevice else .stray
      head := headConcerned s (.presence i), socket := some i, slot := none, detail := 0 }
  | .grip h n =>
    { kind := if (s.nozzle h n).content.unit.isSome then .drop else .stray
      head := some h, socket := none, slot := none, detail := 0 }

theorem lineFault_faultCharged (l : Line) (s : State) : lineFault (faultCharged l s) l = lineFault s l := by
  have hframe := faultCharged_only l s
  cases l with
  | presence i =>
    simp only [lineFault, headConcerned, sockets_faultCharged, hframe.zones, hframe.socketPage]
  | grip h n =>
    unfold lineFault
    dsimp only
    rw [nozzle_faultCharged]

/-- The phase of a socket whose line has faulted (R122). -/
def Phase.lineFaulted (p : Phase) : Phase :=
  match p.unit with
  | some u => .fault .lostDevice (some u)
  | none => .fault .stray none

theorem Phase.lineFaulted_unwatched (p : Phase) : p.lineFaulted.expects = none ∧ p.lineFaulted.seated = false := by
  unfold Phase.lineFaulted
  split <;> exact ⟨rfl, rfl⟩

theorem socketLineFault_watched {i : SocketIx} {s : State} (h : s.sockets[i].phase.expects ≠ none) :
    socketLineFault i s =
      captureFault (lineFault s (.presence i)) (resettled i s.sockets[i].phase.lineFaulted s) := by
  have hnot : ¬ (s.sockets[i].phase.seated = true ∧ s.sockets[i].phase.lineFaulted.seated = true) := fun hs => by
    rw [(Phase.lineFaulted_unwatched _).2] at hs
    cases hs.2
  rw [← changePhase_eq_resettled hnot]
  unfold socketLineFault lineFault
  dsimp only
  split
  next hp => rw [hp]; rfl
  next hp => rw [hp]; rfl
  next hp => rw [hp]; rfl
  next hp => rw [hp]; rfl
  next hempty hloaded htesting htested =>
    refine absurd ?_ h
    cases hp : s.sockets[i].phase
    case empty => exact absurd hp hempty
    case loaded => exact absurd hp (hloaded _)
    case testing => exact absurd hp (htesting _)
    case tested => exact absurd hp (htested _)
    all_goals rfl

theorem nozzleLineFault_watched {h : HeadIx} {n : NozzleId} {s : State}
    (hn : (s.nozzle h n).content.isSuspect = false) :
    nozzleLineFault h n s = captureFault (lineFault s (.grip h n))
      (setContent h n (.suspect (s.nozzle h n).content.unit) s) := by
  unfold nozzleLineFault lineFault
  dsimp only
  split
  next hc => rw [hc]; rfl
  next hc => rw [hc]; rfl
  next hc => rw [hc] at hn; cases hn

theorem watchedLevel_of_expectedLevel {s : State} {l : Line} (h : expectedLevel s l = none) :
    watchedLevel s l = none := by
  unfold watchedLevel
  rw [h, ite_self]

theorem takeDisturbExpiry_due {l : Line} {s : State} (hw : watchedLevel s l ≠ none) (hd : s.sensor l = .disturbed 0) :
    takeDisturbExpiry l s = compareLine l (ownerFault l (faultCharged l s)) := by
  refine if_pos ?_
  rw [disturbDue, Option.isSome_iff_ne_none.mpr hw, hd]
  rfl

theorem not_suspect_of_expected {h : HeadIx} {n : NozzleId} {s : State} (he : expectedLevel s (.grip h n) ≠ none) :
    (s.nozzle h n).content.isSuspect = false := by
  cases hc : (s.nozzle h n).content with
  | suspect u => exact absurd (by simp only [expectedLevel, hc, ite_self]) he
  | empty | holding => rfl

theorem expectedLevel_ne_none {s : State} {l : Line} (h : watchedLevel s l ≠ none) : expectedLevel s l ≠ none :=
  mt watchedLevel_of_expectedLevel h

theorem takeDisturbExpiry_presence {i : SocketIx} {s : State} (hw : watchedLevel s (.presence i) ≠ none)
    (hd : s.sensor (.presence i) = .disturbed 0) : takeDisturbExpiry (.presence i) s =
      captureFault (lineFault s (.presence i))
        (resettled i s.sockets[i].phase.lineFaulted (faultCharged (.presence i) s)) := by
  have hexpects := expectedLevel_ne_none hw
  rw [expectedLevel_presence] at hexpects
  rw [takeDisturbExpiry_due hw hd, ownerFault, socketLineFault_watched (by rwa [sockets_faultCharged]),
    lineFault_faultCharged, sockets_faultCharged]
  have hunwatched : watchedLevel (captureFault (lineFault s (.presence i))
      (resettled i s.sockets[i].phase.lineFaulted (faultCharged (.presence i) s))) (.presence i) = none := by
    refine watchedLevel_of_expectedLevel ?_
    rw [expectedLevel_presence, sockets_captureFault, sockets_resettled_same]
    exact (Phase.lineFaulted_unwatched _).1
  rw [compareLine_unwatched hunwatched, if_pos]
  rw [sensor_of_owners (sockets_captureFault _ _) (captureFault_only _ _).nozzles, sensor_resettled, if_pos rfl]

theorem takeDisturbExpiry_grip {h : HeadIx} {n : NozzleId} {s : State} (hw : watchedLevel s (.grip h n) ≠ none)
    (hd : s.sensor (.grip h n) = .disturbed 0) : takeDisturbExpiry (.grip h n) s =
      quietLine (.grip h n) (captureFault (lineFault s (.grip h n))
        (setContent h n (.suspect (s.nozzle h n).content.unit) (faultCharged (.grip h n) s))) := by
  have hsuspect : ((captureFault (lineFault s (.grip h n)) (setContent h n (.suspect (s.nozzle h n).content.unit)
      (faultCharged (.grip h n) s))).nozzle h n) =
      { s.nozzle h n with content := .suspect (s.nozzle h n).content.unit } := by
    rw [State.nozzle, (captureFault_only _ _).nozzles, ← State.nozzle, setContent, State.nozzle_setNozzle,
      if_pos ⟨rfl, rfl⟩, nozzle_faultCharged]
  rw [takeDisturbExpiry_due hw hd, ownerFault,
    nozzleLineFault_watched (by rw [nozzle_faultCharged]; exact not_suspect_of_expected (expectedLevel_ne_none hw)),
    lineFault_faultCharged, nozzle_faultCharged, compareLine_unwatched, if_neg]
  · rw [State.sensor, hsuspect]
    exact fun hquiet => absurd (hd.symm.trans hquiet) (by decide)
  · refine watchedLevel_of_expectedLevel ?_
    simp only [expectedLevel, hsuspect, ite_self]

theorem content_setContent (h g : HeadIx) (n k : NozzleId) (c : NozzleContent) (s : State) :
    ((setContent h n c s).nozzle g k).content = if g = h ∧ k = n then c else (s.nozzle g k).content := by
  rw [setContent, State.nozzle_setNozzle]
  split_ifs <;> rfl

theorem sensor_setContent (h : HeadIx) (n : NozzleId) (c : NozzleContent) (s : State) (m : Line) :
    (setContent h n c s).sensor m = s.sensor m := by
  cases m with
  | presence i => rfl
  | grip g k =>
    simp only [State.sensor, setContent, State.nozzle_setNozzle]
    split_ifs with hg
    · rw [hg.1, hg.2]
    · rfl

/-- Settles O45: a socket comes to FAULT with its line already QUIET, a nozzle to SUSPECT and then its line to QUIET. -/
theorem disturbanceFaultsOwner : Obligations.DisturbanceFaultsOwner := by
  unfold Obligations.DisturbanceFaultsOwner
  intro l s hw hd
  have hcharged := faultCharged_only l s
  refine ⟨takeDisturbExpiry l s, rfl, (takeDisturbExpiry_only l s).eq_with, ?_⟩
  cases l with
  | presence i =>
    have hframe := hcharged.trans (resettled_only i s.sockets[i].phase.lineFaulted _)
    have hsensor : ∀ m, (takeDisturbExpiry (.presence i) s).sensor m =
        if m = .presence i then .quiet else s.sensor m := by
      intro m
      rw [takeDisturbExpiry_presence hw hd,
        sensor_of_owners (sockets_captureFault _ _) (captureFault_only _ _).nozzles, sensor_resettled,
        sensor_faultCharged]
    refine ⟨(hsensor _).trans (if_pos rfl), fun m hm => (hsensor m).trans (if_neg hm), fun g => ?_, fun j => ?_,
      fun h n => ?_, ?_⟩
    · rw [takeDisturbExpiry_presence hw hd, (captureFault_only _ _).heads]
      exact heads_dropOpenEntries_faulted (heads_faultCharged _ s g)
    · rw [takeDisturbExpiry_presence hw hd, sockets_captureFault, sockets_resettled, sockets_faultCharged]
      split_ifs with hj hl hl
      · subst hj
        exact ⟨rfl, rfl, rfl⟩
      · exact absurd (congrArg Line.presence hj.symm) hl
      · exact absurd (Line.presence.inj hl).symm hj
      · exact ⟨rfl, rfl, rfl⟩
    · rw [takeDisturbExpiry_presence hw hd, State.nozzle, (captureFault_only _ _).nozzles]
      exact congrArg Nozzle.content (nozzle_faultCharged _ s h n)
    · rw [takeDisturbExpiry_presence hw hd]
      exact captureFault_records _ hframe.capture hframe.overflow hframe.headsSeen
  | grip h n =>
    have hframe := hcharged.trans (setContent_only h n (.suspect (s.nozzle h n).content.unit) _)
    have hsockets : (captureFault (lineFault s (.grip h n)) (setContent h n (.suspect (s.nozzle h n).content.unit)
        (faultCharged (.grip h n) s))).sockets = s.sockets :=
      (sockets_captureFault _ _).trans (sockets_faultCharged (.grip h n) s)
    have hquiet := quietLine_onlySensor (.grip h n) (captureFault (lineFault s (.grip h n))
      (setContent h n (.suspect (s.nozzle h n).content.unit) (faultCharged (.grip h n) s)))
    rw [takeDisturbExpiry_grip hw hd]
    refine ⟨sensor_quietLine _ _, fun m hm => (hquiet.sensor m hm).trans ?_, fun g => ?_, fun j => ?_,
      fun g k => (hquiet.content g k).trans ?_, ?_⟩
    · rw [sensor_of_owners (sockets_captureFault _ _) (captureFault_only _ _).nozzles, sensor_setContent,
        sensor_faultCharged]
    · refine heads_dropOpenEntries_faulted ?_
      rw [heads_setSensor, (captureFault_only _ _).heads]
      exact heads_faultCharged _ s g
    · obtain ⟨hres, hlast, hphase⟩ := hquiet.socket j
      rw [hsockets] at hres hlast hphase
      exact ⟨hres, hlast, hphase⟩
    · rw [State.nozzle, (captureFault_only _ _).nozzles, ← State.nozzle, content_setContent, nozzle_faultCharged]
      by_cases hg : g = h ∧ k = n
      · rw [if_pos hg, hg.1, hg.2, if_pos rfl]
      · rw [if_neg hg, if_neg fun hl => hg (by cases hl; exact ⟨rfl, rfl⟩)]
    · rw [hquiet.frame.capture, hquiet.frame.overflow, hquiet.frame.headsSeen]
      exact captureFault_records _ hframe.capture hframe.overflow hframe.headsSeen

end Sys2Proof.Machine

/-! DRAIN, UNDRAIN and the commands that clear tallies, the capture table and the counters. -/

namespace Sys2Proof.Machine

/-! ### What a control word's block leaves (R11, R14) -/

section

variable {w : Word} {block : State → State × ControlResult} {r : ControlResult} {s : State}

/-- A control word's block works on the state with the word written; its code and the block's result are recorded. -/
theorem controlWrite_of_block {t : State} (h : block (written s controlAddr w) = (t, r)) :
    controlWrite w block s = { t with controlCode := w.extractLsb' 24 8, controlResult := r } := by
  have hwrite : controlWrite w block s =
      { (block (written s controlAddr w)).1 with
        controlCode := w.extractLsb' 24 8
        controlResult := (block (written s controlAddr w)).2 } := rfl
  rw [hwrite, h]

/-- A block that leaves the state as it is gives an answer and nothing else. -/
theorem controlWrite_answers (h : block (written s controlAddr w) = (written s controlAddr w, r)) :
    controlWrite w block s = answered s w r := controlWrite_of_block h

end

theorem takeDrain_setup {s : State} (hm : s.mode = .setup) : takeDrain s = (s, .mode) := by
  rw [takeDrain, hm]

theorem takeDrain_run {s : State} (hm : s.mode = .run) : takeDrain s = ({ s with drain := true }, .accepted) := by
  rw [takeDrain, hm]

/-- No unit is carried just where each of the 24 carriers has none (R125). -/
theorem unitsCarried_eq_zero_iff (s : State) : unitsCarried s = 0 ↔ ∀ c, unitAt s c = none := by
  rw [unitsCarried, List.length_eq_zero_iff, carriedUnits_eq_filterMap, List.filterMap_eq_nil_iff]
  exact ⟨fun h c => h c (mem_allCarriers c), fun h c _ => h c⟩

theorem takeClearTallies_carrying {s : State} (hunit : ∃ c, unitAt s c ≠ none) :
    takeClearTallies s = (s, .units) := by
  obtain ⟨c, hc⟩ := hunit
  exact if_neg fun hzero => hc ((unitsCarried_eq_zero_iff s).mp hzero c)

theorem takeClearTallies_empty {s : State} (hnone : ∀ c, unitAt s c = none) :
    takeClearTallies s =
      ({ s with picked := 0, discarded := 0, delivered := Vector.replicate 8 0 }, .accepted) :=
  if_pos ((unitsCarried_eq_zero_iff s).mpr hnone)

/-- A control word that is written moves no unit. -/
theorem unitAt_written (s : State) (a : Nat) (w : Word) (c : Carrier) : unitAt (written s a w) c = unitAt s c := by
  cases c <;> rfl

/-- Settles O18: each command's block on the state with its word written, by mode and by the units carried. -/
theorem drainAndClearCommands : Obligations.DrainAndClearCommands := by
  unfold Obligations.DrainAndClearCommands
  intro body s
  refine ⟨fun hm => ?_, fun hm => ?_, rfl, fun ⟨c, hc⟩ => ?_, fun hnone => ?_, rfl, rfl⟩
  · exact congrArg Host.Outcome.next (controlWrite_answers (takeDrain_setup hm))
  · exact congrArg Host.Outcome.next (controlWrite_of_block (takeDrain_run hm))
  · exact congrArg Host.Outcome.next
      (controlWrite_answers (takeClearTallies_carrying ⟨c, fun hu => hc ((unitAt_written s _ _ c).symm.trans hu)⟩))
  · exact congrArg Host.Outcome.next
      (controlWrite_of_block (takeClearTallies_empty fun c => (unitAt_written s _ _ c).trans (hnone c)))

end Sys2Proof.Machine

/-! The tags of the deck under every step: what the condition on tags reads of the state, how clearances and reports
move a tag from an order to the pending set and to a carrier, and the statement that every step keeps the tags unique. -/

namespace Sys2Proof.Machine

/-! ### What the condition on tags reads (R125, R131) -/

/-- The tag of each carrier's unit, the pending tags, and the tags that each head's CLEARED order has left to pick. -/
@[ext] structure TagLedger where
  carried : Carrier → Option Tag
  pending : List Tag
  left : HeadIx → List Tag

/-- The tag of a unit, if there is one. -/
def tagOf (u : Option UnitRec) : Option Tag := u.map UnitRec.tag

/-- The tag of each carrier's unit. -/
def Account.tag (a : Account) (c : Carrier) : Option Tag := tagOf (a.unitAt c)

/-- The legs that the order at head h's fetch index has left, if it is CLEARED. -/
def OrderBook.legsLeft (b : OrderBook) (h : HeadIx) : List Leg :=
  if (b.order h (b.fetchIndex h)).state = .cleared then
    (b.order h (b.fetchIndex h)).chain.drop (b.order h (b.fetchIndex h)).completed
  else []

/-- The tags that head h's CLEARED order has left to pick. -/
def OrderBook.tagsLeft (b : OrderBook) (h : HeadIx) : List Tag := inputTags b.pages (b.legsLeft h)

/-- The ledger of a state. -/
def State.ledger (s : State) : TagLedger where
  carried := s.account.tag
  pending := s.pendingTags
  left := s.book.tagsLeft

/-- No carrier has tag 0 or a pending tag, and no two have the same; the pending tags are, each once, those that CLEARED
orders have left, and no tag is left to two heads. -/
structure TagLedger.Unique (l : TagLedger) : Prop where
  nonzero : ∀ c t, l.carried c = some t → t ≠ 0
  unpended : ∀ c t, l.carried c = some t → t ∉ l.pending
  apart : ∀ c d t, l.carried c = some t → l.carried d = some t → c = d
  nodup : l.pending.Nodup
  mem_pending : ∀ t, t ∈ l.pending ↔ ∃ h, t ∈ l.left h
  left_apart : ∀ h g t, t ∈ l.left h → t ∈ l.left g → h = g

/-! ### The ledger is what the condition on tags says -/

@[simp] theorem tagOf_some (u : UnitRec) : tagOf (some u) = some u.tag := rfl

theorem tagOf_eq_some_iff {u : Option UnitRec} {t : Tag} : tagOf u = some t ↔ ∃ v, u = some v ∧ v.tag = t :=
  Option.map_eq_some_iff

theorem inputTags_of_zonePage {s t : State} (hzone : t.zonePage = s.zonePage) : inputTags t = inputTags s := by
  funext legs
  rw [inputTags, inputTags, inputPick_of_zonePage hzone]

theorem tagsLeft_book (s : State) (h : HeadIx) : s.book.tagsLeft h = inputTags s (legsLeft s h) :=
  congrFun (inputTags_of_zonePage (s := s) (t := s.book.pages) rfl) _

theorem unitAt_account (s : State) (c : Carrier) : s.account.unitAt c = unitAt s c := by
  cases c <;> rfl

theorem carried_ledger_iff {s : State} {c : Carrier} {t : Tag} :
    s.ledger.carried c = some t ↔ ∃ u, unitAt s c = some u ∧ u.tag = t := by
  rw [← unitAt_account]
  exact tagOf_eq_some_iff

theorem tagsUnique_iff (s : State) : TagsUnique s ↔ s.ledger.Unique := by
  have hleft : ∀ h, inputTags s (legsLeft s h) = s.ledger.left h := fun h => (tagsLeft_book s h).symm
  unfold TagsUnique
  simp only [hleft]
  constructor
  · rintro ⟨hunit, hapart, hnodup, hpending, hleft⟩
    refine ⟨fun c t hc => ?_, fun c t hc => ?_, fun c d t hc hd => ?_, hnodup, hpending, hleft⟩
    · obtain ⟨u, hu, rfl⟩ := carried_ledger_iff.mp hc
      exact (hunit c u hu).1
    · obtain ⟨u, hu, rfl⟩ := carried_ledger_iff.mp hc
      exact (hunit c u hu).2
    · obtain ⟨u, hu, rfl⟩ := carried_ledger_iff.mp hc
      obtain ⟨v, hv, htag⟩ := carried_ledger_iff.mp hd
      exact hapart c d u v hu hv htag.symm
  · rintro ⟨hzero, hunpended, hapart, hnodup, hpending, hleft⟩
    refine ⟨fun c u hu => ?_, fun c d u v hu hv htag => ?_, hnodup, hpending, hleft⟩
    · have hc := carried_ledger_iff.mpr ⟨u, hu, rfl⟩
      exact ⟨hzero c _ hc, hunpended c _ hc⟩
    · exact hapart c d u.tag (carried_ledger_iff.mpr ⟨u, hu, rfl⟩) (carried_ledger_iff.mpr ⟨v, hv, htag.symm⟩)

/-! ### Accounts whose carriers have their tags from another -/

/-- The unit u, if there is one, has the tag of v. -/
def TagWithin (u v : Option UnitRec) : Prop := ∀ t, tagOf u = some t → tagOf v = some t

theorem TagWithin.none (v : Option UnitRec) : TagWithin none v := fun _ ht => nomatch ht

theorem TagWithin.of_tag {u v : Option UnitRec} (h : tagOf u = tagOf v) : TagWithin u v := fun _ ht => h.symm.trans ht

namespace Account

/-- Every carrier of b has its tag from a carrier of a, and no two have it from one: units are moved, changed but for
their tags, or gone. -/
def TagsFrom (b a : Account) : Prop :=
  ∃ origin : Carrier → Carrier, origin.Injective ∧ ∀ c t, b.tag c = some t → a.tag (origin c) = some t

variable {a b c : Account} {h : HeadIx} {n : NozzleId} {i : SocketIx}

theorem TagsFrom.in_place (hsame : ∀ c t, b.tag c = some t → a.tag c = some t) : b.TagsFrom a :=
  ⟨id, Function.injective_id, hsame⟩

theorem TagsFrom.refl (a : Account) : a.TagsFrom a := .in_place fun _ _ => id

theorem TagsFrom.of_eq (heq : b = a) : b.TagsFrom a := heq ▸ .refl a

theorem TagsFrom.trans (hc : c.TagsFrom b) (hb : b.TagsFrom a) : c.TagsFrom a := by
  obtain ⟨f, hf, hcb⟩ := hc
  obtain ⟨g, hg, hba⟩ := hb
  exact ⟨g ∘ f, hg.comp hf, fun x t hx => hba _ t (hcb x t hx)⟩

theorem tag_setUnit (a : Account) (i : SocketIx) (u : Option UnitRec) :
    (a.setUnit i u).tag = Function.update a.tag (.socket i) (tagOf u) := by
  funext c
  cases c with
  | socket j =>
    simp only [tag, unitAt, setUnit, Function.update_apply, Carrier.socket.injEq]
    split_ifs <;> rfl
  | nozzle h n => rfl

theorem tag_setNozzle (a : Account) (h : HeadIx) (n : NozzleId) (x : NozzleContent) :
    (a.setNozzle h n x).tag = Function.update a.tag (.nozzle h n) (tagOf x.unit) := by
  funext c
  cases c with
  | socket j => rfl
  | nozzle g m =>
    simp only [tag, unitAt, setNozzle, Function.update_apply, Carrier.nozzle.injEq]
    split_ifs <;> rfl

theorem TagsFrom.of_update {c : Carrier} {x : Option Tag} (hb : b.tag = Function.update a.tag c x)
    (hx : ∀ t, x = some t → a.tag c = some t) : b.TagsFrom a := by
  refine .in_place fun d t ht => ?_
  rw [hb, Function.update_apply] at ht
  split_ifs at ht with hd
  · exact hd ▸ hx t ht
  · exact ht

/-- A socket's unit may be changed, but for its tag, or be gone. -/
theorem TagsFrom.setUnit {u : Option UnitRec} (hu : TagWithin u (a.socketUnit i)) : (a.setUnit i u).TagsFrom a :=
  .of_update (tag_setUnit a i u) hu

/-- A nozzle's unit may be changed, but for its tag, or be gone. -/
theorem TagsFrom.setNozzle {x : NozzleContent} (hx : TagWithin x.unit (a.nozzle h n).unit) :
    (a.setNozzle h n x).TagsFrom a :=
  .of_update (tag_setNozzle a h n x) hx

/-- A unit may move from carrier d to carrier c. -/
theorem TagsFrom.move {c d : Carrier} (hc : b.tag c = a.tag d) (hd : b.tag d = none)
    (hrest : ∀ e, e ≠ c → e ≠ d → b.tag e = a.tag e) : b.TagsFrom a := by
  refine ⟨Equiv.swap c d, (Equiv.swap c d).injective, fun e t ht => ?_⟩
  rcases eq_or_ne e c with rfl | hec
  · rw [Equiv.swap_apply_left, ← hc]
    exact ht
  · rcases eq_or_ne e d with rfl | hed
    · rw [hd] at ht
      cases ht
    · rw [Equiv.swap_apply_of_ne_of_ne hec hed, ← hrest e hec hed]
      exact ht

/-- A socket's unit may move to a nozzle. -/
theorem TagsFrom.take {u : UnitRec} (hu : a.socketUnit i = some u) :
    ((a.setNozzle h n (.holding u)).setUnit i none).TagsFrom a := by
  have htag : a.tag (.socket i) = some u.tag := congrArg tagOf hu
  refine .move (c := .nozzle h n) (d := .socket i) ?_ ?_ fun e hc hd => ?_
  · rw [tag_setUnit, tag_setNozzle, Function.update_of_ne (by exact nofun), Function.update_self, htag]
    rfl
  · rw [tag_setUnit, Function.update_self]
    rfl
  · rw [tag_setUnit, tag_setNozzle, Function.update_of_ne hd, Function.update_of_ne hc]

/-- A nozzle's unit may move to a socket, changed but for its tag. -/
theorem TagsFrom.place {u v : UnitRec} (hu : a.nozzle h n = .holding u) (hv : v.tag = u.tag) :
    ((a.setNozzle h n .empty).setUnit i (some v)).TagsFrom a := by
  have htag : a.tag (.nozzle h n) = some u.tag := congrArg (fun x => tagOf (NozzleContent.unit x)) hu
  refine .move (c := .socket i) (d := .nozzle h n) ?_ ?_ fun e hc hd => ?_
  · rw [tag_setUnit, Function.update_self, htag, tagOf_some, hv]
  · rw [tag_setUnit, tag_setNozzle, Function.update_of_ne (by exact nofun), Function.update_self]
    rfl
  · rw [tag_setUnit, tag_setNozzle, Function.update_of_ne hc, Function.update_of_ne hd]

end Account

/-! ### Tags left in the book -/

theorem inputTags_nil (s : State) : inputTags s [] = [] := rfl

theorem inputTags_cons_of_pick {s : State} {l : Leg} (hl : inputPick s l = true) (rest : List Leg) :
    inputTags s (l :: rest) = l.tag :: inputTags s rest := by
  rw [inputTags, List.filter_cons_of_pos hl]
  rfl

theorem inputTags_cons_of_not_pick {s : State} {l : Leg} (hl : inputPick s l = false) (rest : List Leg) :
    inputTags s (l :: rest) = inputTags s rest := by
  rw [inputTags, List.filter_cons_of_neg (Bool.eq_false_iff.mp hl)]
  rfl

namespace OrderBook

variable {b : OrderBook} {h : HeadIx} {k : SlotIx} {o : Order}

theorem legsLeft_of_not_cleared (hidle : (b.order h (b.fetchIndex h)).state ≠ .cleared) : b.legsLeft h = [] :=
  if_neg hidle

theorem tagsLeft_of_not_cleared (hidle : (b.order h (b.fetchIndex h)).state ≠ .cleared) : b.tagsLeft h = [] :=
  congrArg (inputTags b.pages) (legsLeft_of_not_cleared hidle)

theorem Resting.not_cleared (hrest : b.Resting h) (k : SlotIx) : (b.order h k).state ≠ .cleared := by
  intro hc
  have ha := hrest k
  rw [hc] at ha
  cases ha

/-- An order at the fetch index puts its own tags in the place of those left. -/
theorem tagsLeft_setOrder_at (hk : k = b.fetchIndex h) :
    (b.setOrder h k o).tagsLeft = Function.update b.tagsLeft h
      (inputTags b.pages (if o.state = .cleared then o.chain.drop o.completed else [])) := by
  subst hk
  funext g
  rcases eq_or_ne g h with rfl | hg
  · simp only [tagsLeft, legsLeft, setOrder_fetchIndex, setOrder_order_same, Function.update_self]
    rfl
  · have horder : ∀ j, (b.setOrder h (b.fetchIndex h) o).order g j = b.order g j := fun j => if_neg fun hgj => hg hgj.1
    simp only [tagsLeft, legsLeft, setOrder_fetchIndex, horder, Function.update_of_ne hg]
    rfl

/-- An order that is not CLEARED may take the place of one that is not. -/
theorem tagsLeft_setOrder (hold : (b.order h k).state ≠ .cleared) (hnew : o.state ≠ .cleared) :
    (b.setOrder h k o).tagsLeft = b.tagsLeft := by
  rcases eq_or_ne k (b.fetchIndex h) with hk | hk
  · have hnone : b.tagsLeft h = [] := tagsLeft_of_not_cleared (hk ▸ hold)
    rw [tagsLeft_setOrder_at hk, if_neg hnew, inputTags_nil, ← hnone, Function.update_eq_self]
  · have hindex : ∀ g, (b.setOrder h k o).order g (b.fetchIndex g) = b.order g (b.fetchIndex g) := fun g =>
      if_neg fun ⟨hg, hj⟩ => hk (hg ▸ hj).symm
    funext g
    simp only [tagsLeft, legsLeft, setOrder_fetchIndex, hindex]
    rfl

/-- The fetch index of a head without a held or CLEARED order may move. -/
theorem tagsLeft_setFetch (hrest : b.Resting h) (f : SlotIx) : (b.setFetch h f).tagsLeft = b.tagsLeft := by
  funext g
  rcases eq_or_ne g h with rfl | hg
  · rw [tagsLeft_of_not_cleared (hrest.not_cleared _), tagsLeft_of_not_cleared (b := b.setFetch g f)]
    exact hrest.not_cleared _
  · have hfetch : (b.setFetch h f).fetchIndex g = b.fetchIndex g := Function.update_of_ne hg _ _
    simp only [tagsLeft, legsLeft, hfetch]
    rfl

/-- With the order at the fetch index ended and the fetch index moved on, the head has no tag left. -/
theorem Sound.tagsLeft_endOrder (hb : b.Sound) (hk : k = b.fetchIndex h) (ho : o.state.live = false) (f : SlotIx) :
    ((b.setOrder h k o).setFetch h f).tagsLeft = Function.update b.tagsLeft h [] := by
  have hnew : o.state ≠ .cleared := fun hc => by rw [hc] at ho; cases ho
  rw [tagsLeft_setFetch (hb.resting_setOrder hk ho), tagsLeft_setOrder_at hk, if_neg hnew, inputTags_nil]

end OrderBook

/-! ### Changes of the ledger -/

namespace TagLedger

/-- The ledger after tags of head h's order, gone, leave the pending set, rest being those it has left. -/
def drop (l : TagLedger) (h : HeadIx) (gone rest : List Tag) : TagLedger :=
  { l with pending := l.pending.filter (fun t => !gone.contains t), left := Function.update l.left h rest }

/-- The ledger with a unit of tag t on carrier c. -/
def carry (l : TagLedger) (c : Carrier) (t : Tag) : TagLedger :=
  { l with carried := Function.update l.carried c (some t) }

/-- The ledger after head h's order is cleared with tags to pick. -/
def clear (l : TagLedger) (h : HeadIx) (tags : List Tag) : TagLedger :=
  { l with pending := tags.foldl (fun ts t => pendTag t ts) l.pending, left := Function.update l.left h tags }

variable {l : TagLedger} {h g : HeadIx} {gone rest tags : List Tag} {t u : Tag} {c d : Carrier}

theorem mem_left_drop : t ∈ (l.drop h gone rest).left g ↔ if g = h then t ∈ rest else t ∈ l.left g := by
  simp only [TagLedger.drop, Function.update_apply]
  split_ifs <;> rfl

theorem mem_pending_drop : t ∈ (l.drop h gone rest).pending ↔ t ∈ l.pending ∧ t ∉ gone := by
  simp [TagLedger.drop]

theorem carried_carry_iff :
    (l.carry c t).carried d = some u ↔ if d = c then t = u else l.carried d = some u := by
  simp only [TagLedger.carry, Function.update_apply]
  split_ifs
  · exact Option.some_inj
  · rfl

theorem mem_left_clear : t ∈ (l.clear h tags).left g ↔ if g = h then t ∈ tags else t ∈ l.left g := by
  simp only [TagLedger.clear, Function.update_apply]
  split_ifs <;> rfl

theorem mem_pendTag {pending : List Tag} : t ∈ pendTag u pending ↔ t = u ∨ t ∈ pending := by
  unfold pendTag
  split_ifs with hu
  · exact ⟨.inr, fun ht => ht.elim (fun heq => heq ▸ List.contains_iff_mem.mp hu) id⟩
  · exact List.mem_cons

theorem nodup_pendTag {pending : List Tag} (hpending : pending.Nodup) : (pendTag u pending).Nodup := by
  unfold pendTag
  split_ifs with hu
  · exact hpending
  · exact List.nodup_cons.mpr ⟨fun hmem => hu (List.contains_iff_mem.mpr hmem), hpending⟩

theorem mem_pending_clear : t ∈ (l.clear h tags).pending ↔ t ∈ tags ∨ t ∈ l.pending := by
  have hfold : ∀ pending : List Tag, t ∈ tags.foldl (fun ts t => pendTag t ts) pending ↔ t ∈ tags ∨ t ∈ pending := by
    induction tags with
    | nil => simp
    | cons u rest ih =>
      intro pending
      rw [List.foldl_cons, ih, mem_pendTag, List.mem_cons]
      tauto
  exact hfold l.pending

theorem nodup_pending_clear (hl : l.pending.Nodup) : (l.clear h tags).pending.Nodup := by
  have hfold : ∀ pending : List Tag, pending.Nodup → (tags.foldl (fun ts t => pendTag t ts) pending).Nodup := by
    induction tags with
    | nil => exact fun _ => id
    | cons u rest ih => exact fun pending hp => ih _ (nodup_pendTag hp)
  exact hfold l.pending hl

/-- Tags that a head's order has left may leave the pending set and the order, if none of them stays with it. -/
theorem Unique.drop (hl : l.Unique) (hleft : l.left h = gone ++ rest) (hnodup : (gone ++ rest).Nodup) :
    (l.drop h gone rest).Unique := by
  have hkept : ∀ g t, t ∈ (l.drop h gone rest).left g ↔ t ∈ l.left g ∧ t ∉ gone := by
    intro g t
    rw [mem_left_drop]
    split_ifs with hg
    · have hapart : t ∈ rest → t ∉ gone := fun hr hgone => List.disjoint_of_nodup_append hnodup hgone hr
      rw [hg, hleft, List.mem_append]
      tauto
    · refine ⟨fun ht => ⟨ht, fun hgone => hg (hl.left_apart g h t ht ?_)⟩, And.left⟩
      exact hleft ▸ List.mem_append_left _ hgone
  refine ⟨hl.nonzero, fun c t hc ht => hl.unpended c t hc (mem_pending_drop.mp ht).1, hl.apart, hl.nodup.filter _,
    fun t => ?_, fun g f t hg hf => hl.left_apart g f t ((hkept g t).mp hg).1 ((hkept f t).mp hf).1⟩
  simp only [mem_pending_drop, hkept, hl.mem_pending, exists_and_right]

/-- A unit may come onto a carrier with a tag that is neither 0 nor pending nor carried. -/
theorem Unique.carry (hl : l.Unique) (hzero : t ≠ 0) (hpending : t ∉ l.pending) (hfree : ∀ c, l.carried c ≠ some t)
    (c : Carrier) : (l.carry c t).Unique := by
  refine ⟨fun d u hd => ?_, fun d u hd => ?_, fun d e u hd he => ?_, hl.nodup, hl.mem_pending, hl.left_apart⟩
  · rw [carried_carry_iff] at hd
    split_ifs at hd
    · exact hd ▸ hzero
    · exact hl.nonzero d u hd
  · rw [carried_carry_iff] at hd
    split_ifs at hd
    · exact hd ▸ hpending
    · exact hl.unpended d u hd
  · rw [carried_carry_iff] at hd he
    split_ifs at hd he with hdc hec hec
    · exact hdc.trans hec.symm
    · exact absurd (hd ▸ he) (hfree e)
    · exact absurd (he ▸ hd) (hfree d)
    · exact hl.apart d e u hd he

/-- A head without a tag left may be cleared with tags that are neither pending nor carried. -/
theorem Unique.clear (hl : l.Unique) (hnone : l.left h = []) (hpending : ∀ t ∈ tags, t ∉ l.pending)
    (hfree : ∀ t ∈ tags, ∀ c, l.carried c ≠ some t) : (l.clear h tags).Unique := by
  have hleft : ∀ g t, t ∈ (l.clear h tags).left g ↔ (g = h ∧ t ∈ tags) ∨ t ∈ l.left g := by
    intro g t
    rw [mem_left_clear]
    split_ifs with hg
    · simp [hg, hnone]
    · simp [hg]
  have hother : ∀ g t, t ∈ tags → t ∉ l.left g := fun g t ht hg =>
    hpending t ht ((hl.mem_pending t).mpr ⟨g, hg⟩)
  refine ⟨hl.nonzero, fun c t hc ht => ?_, hl.apart, nodup_pending_clear hl.nodup, fun t => ?_, fun g f t hg hf => ?_⟩
  · obtain ht | ht := mem_pending_clear.mp ht
    · exact hfree t ht c hc
    · exact hl.unpended c t hc ht
  · simp only [mem_pending_clear, hleft, hl.mem_pending, exists_or, exists_and_right, exists_eq, true_and]
  · rw [hleft] at hg hf
    obtain ⟨hgh, hgt⟩ | hgt := hg
    · obtain ⟨hfh, -⟩ | hft := hf
      · exact hgh.trans hfh.symm
      · exact absurd hft (hother f t hgt)
    · obtain ⟨-, hft⟩ | hft := hf
      · exact absurd hgt (hother g t hft)
      · exact hl.left_apart g f t hgt hft

end TagLedger

/-! ### Steps that move no tag between orders, the pending set and the units -/

/-- The carriers' tags are from those of s, and the pending tags and the tags left are the same. -/
structure KeepsTags (s t : State) : Prop where
  units : t.account.TagsFrom s.account
  pending : t.pendingTags = s.pendingTags
  left : t.book.tagsLeft = s.book.tagsLeft

section

variable {s t u : State}

theorem KeepsTags.refl : KeepsTags s s := ⟨.refl _, rfl, rfl⟩

theorem KeepsTags.trans (h : KeepsTags s t) (k : KeepsTags t u) : KeepsTags s u :=
  ⟨k.units.trans h.units, k.pending.trans h.pending, k.left.trans h.left⟩

theorem KeepsTags.of_eq (haccount : t.account = s.account) (hpending : t.pendingTags = s.pendingTags)
    (hbook : t.book = s.book) : KeepsTags s t :=
  ⟨.of_eq haccount, hpending, congrArg OrderBook.tagsLeft hbook⟩

theorem KeepsTags.unique (h : KeepsTags s t) (hs : s.ledger.Unique) : t.ledger.Unique := by
  obtain ⟨⟨origin, hinj, hcarried⟩, hpending, hleft⟩ := h
  have hpending' : t.ledger.pending = s.ledger.pending := hpending
  have hleft' : t.ledger.left = s.ledger.left := hleft
  refine ⟨fun c x hc => hs.nonzero _ x (hcarried c x hc), fun c x hc => ?_, fun c d x hc hd => ?_, ?_, ?_, ?_⟩
  · rw [hpending']
    exact hs.unpended _ x (hcarried c x hc)
  · exact hinj (hs.apart _ _ x (hcarried c x hc) (hcarried d x hd))
  · rw [hpending']
    exact hs.nodup
  · rw [hpending', hleft']
    exact hs.mem_pending
  · rw [hleft']
    exact hs.left_apart

theorem KeepsTags.foldl {α : Type} {f : State → α → State} (hf : ∀ t a, KeepsTags t (f t a)) (l : List α) (s : State) :
    KeepsTags s (l.foldl f s) := by
  induction l generalizing s with
  | nil => exact .refl
  | cons a rest ih => exact (hf s a).trans (ih _)

end

theorem captureFault_keepsTags (f : FaultReport) (s : State) : KeepsTags s (captureFault f s) :=
  .of_eq (account_captureFault f s) (captureFault_only f s).pendingTags (book_captureFault f s)

theorem compareLine_keepsTags (l : Line) (s : State) : KeepsTags s (compareLine l s) :=
  .of_eq (account_compareLine l s) (compareLine_only l s).pendingTags (book_compareLine l s)

theorem compareLines_keepsTags (ls : List Line) (s : State) : KeepsTags s (compareLines ls s) :=
  .of_eq (account_compareLines ls s) (compareLines_only ls s).pendingTags (book_compareLines ls s)

theorem setContent_keepsTags {h : HeadIx} {n : NozzleId} {c : NozzleContent} {s : State}
    (hc : TagWithin c.unit (s.nozzle h n).content.unit) : KeepsTags s (setContent h n c s) := by
  refine ⟨?_, (setContent_only h n c s).pendingTags, rfl⟩
  rw [account_setContent]
  exact .setNozzle hc

theorem changePhase_keepsTags {i : SocketIx} {p : Phase} {s : State} (hp : TagWithin p.unit s.sockets[i].phase.unit) :
    KeepsTags s (changePhase i p s) := by
  refine ⟨?_, (changePhase_only i p s).pendingTags, congrArg OrderBook.tagsLeft (book_changePhase i p s)⟩
  rw [account_changePhase]
  exact .setUnit hp

theorem commandPhase_keepsTags {i : SocketIx} {p : Phase} {s : State} (hp : TagWithin p.unit s.sockets[i].phase.unit) :
    KeepsTags s (commandPhase i p s) :=
  (changePhase_keepsTags hp).trans (compareLine_keepsTags _ _)

theorem stopHolding_keepsTags (h : HeadIx) (s : State) : KeepsTags s (stopHolding h s) :=
  .of_eq (account_stopHolding h s) (stopHolding_events h s).pendingTags (book_stopHolding h s)

theorem setHead_keepsTags (h : HeadIx) (x : HeadRec) (s : State) : KeepsTags s (s.setHead h x) := by
  refine ⟨?_, rfl, ?_⟩
  · rw [account_setHead]
    exact .refl s.account
  · rw [book_setHead]
    rfl

/-- An order that is not CLEARED may take the place of one that is not. -/
theorem setOrder_keepsTags {h : HeadIx} {k : SlotIx} {o : Order} {s : State} (hold : (s.order h k).state ≠ .cleared)
    (hnew : o.state ≠ .cleared) : KeepsTags s (s.setOrder h k o) := by
  refine ⟨.refl s.account, rfl, ?_⟩
  rw [book_setOrder]
  exact OrderBook.tagsLeft_setOrder hold hnew

theorem refuseOrder_keepsTags {h : HeadIx} {k : SlotIx} {s : State} (hold : (s.order h k).state ≠ .cleared) (r : Reason)
    (skip : Bool) : KeepsTags s (refuseOrder h k r skip s) := by
  have hnew : OrderState.refused r ≠ .cleared := nofun
  exact setOrder_keepsTags hold hnew

/-- The fetch index of a head without a held or CLEARED order may move. -/
theorem setFetchIndex_keepsTags {h : HeadIx} {s : State} (hrest : s.book.Resting h) (f : SlotIx) :
    KeepsTags s (s.setFetchIndex h f) := by
  refine ⟨.of_eq (account_setFetchIndex h f s), rfl, ?_⟩
  rw [book_setFetchIndex]
  exact OrderBook.tagsLeft_setFetch hrest f

theorem advanceFetch_keepsTags {h : HeadIx} {s : State} (hrest : s.book.Resting h) : KeepsTags s (advanceFetch h s) :=
  setFetchIndex_keepsTags hrest _

theorem answer_keepsTags (h : HeadIx) (w : Word) (s : State) : KeepsTags s (answer h w s) := .of_eq rfl rfl rfl

theorem order_stopHolding (h : HeadIx) (s : State) : (stopHolding h s).order = s.order :=
  congrArg OrderBook.order (book_stopHolding h s)

/-! ### Line events and expiries -/

theorem OrderState.ne_cleared_of_held {o : OrderState} (h : o.held = true) : o ≠ .cleared := by
  rintro rfl
  cases h

/-- A line fault leaves the nozzle its unit (R150). -/
theorem nozzleLineFault_keepsTags (h : HeadIx) (n : NozzleId) (s : State) : KeepsTags s (nozzleLineFault h n s) := by
  have hfault : ∀ u f, u = (s.nozzle h n).content.unit →
      KeepsTags s (captureFault f (setContent h n (.suspect u) s)) := fun u f hu =>
    (setContent_keepsTags (c := .suspect u) (.of_tag (congrArg tagOf hu))).trans
      (captureFault_keepsTags f _)
  unfold nozzleLineFault
  dsimp only
  split
  next hc => exact hfault _ _ (by rw [hc]; rfl)
  next hc => exact hfault _ _ (by rw [hc]; rfl)
  next => exact .refl

theorem takeDisturbExpiry_tagsFrom (l : Line) (s : State) : (takeDisturbExpiry l s).account.TagsFrom s.account := by
  unfold takeDisturbExpiry
  split_ifs
  · have hcharged : (chargeFaulted l (faultOpenEntries l s)).account = s.account := by
      rw [account_chargeFaulted, account_faultOpenEntries]
    rw [account_compareLine, ← hcharged]
    cases l with
    | presence i => exact .of_eq (account_socketLineFault i _)
    | grip h n => exact (nozzleLineFault_keepsTags h n _).units
  · exact .refl _

/-- The expiry of a hold timer refuses a held order only (R75). -/
theorem takeHoldExpiry_keepsTags (h : HeadIx) (s : State) : KeepsTags s (takeHoldExpiry h s) := by
  have hstop := stopHolding_keepsTags h s
  unfold takeHoldExpiry
  dsimp only
  split_ifs with hdue hheld
  · refine hstop.trans (refuseOrder_keepsTags ?_ _ _)
    rw [order_stopHolding]
    exact OrderState.ne_cleared_of_held hheld
  · exact hstop
  · exact .refl

theorem takeEvent_keepsTags (e : TimedEvent) (s : State) : KeepsTags s (takeEvent e s) := by
  have hpending : (takeEvent e s).pendingTags = s.pendingTags := (takeEvent_only e s).pendingTags
  cases e with
  | level l => exact .of_eq (account_takeLevelChange l s) hpending (takeLevelChange_keeps l s).book
  | hold h => exact takeHoldExpiry_keepsTags h s
  | seat i => exact .of_eq (account_takeSeatExpiry i s) hpending (takeSeatExpiry_keeps i s).book
  | vacate i => exact .of_eq (account_takeVacateExpiry i s) hpending (takeVacateExpiry_keeps i s).book
  | disturb l =>
    exact ⟨takeDisturbExpiry_tagsFrom l s, hpending, congrArg OrderBook.tagsLeft (takeDisturbExpiry_keeps l s).book⟩
  | recover l => exact .of_eq (account_takeRecoverExpiry l s) hpending (takeRecoverExpiry_keeps l s).book

theorem settleFor_keepsTags (n : Nat) (s : State) : KeepsTags s (settleFor n s) := by
  induction n generalizing s with
  | zero => exact .refl
  | succ n ih =>
    unfold settleFor
    split
    · exact .refl
    · have hdrawn : KeepsTags s { s with freeDraws := s.freeDraws + 1 } := .of_eq rfl rfl rfl
      exact hdrawn.trans ((takeEvent_keepsTags _ _).trans (ih _))

theorem sampleTick_keepsTags (p : BitVec 16) (g : BitVec 8) (s : State) : KeepsTags s (sampleTick p g s) :=
  .of_eq (account_sampleTick p g s) rfl (sampleTick_keeps p g s).book

theorem tickWith_keepsTags (p : BitVec 16) (g : BitVec 8) (s : State) : KeepsTags s (tickWith p g s) :=
  (settleFor_keepsTags 128 s).trans (sampleTick_keepsTags p g _)

theorem portClock_keepsTags (s : State) : KeepsTags s (portClock s) := by
  have hsettled : KeepsTags s (settle s) := settleFor_keepsTags 128 s
  unfold portClock
  dsimp only
  split_ifs
  · exact hsettled.trans (.of_eq rfl rfl rfl)
  · exact hsettled.trans (sampleTick_keepsTags _ _ _)

/-! ### Fetches (R59 to R77, R132) -/

/-- The static checks have a chain's tags to pick other than 0 and apart (R49, check 5). -/
theorem inputTags_of_postFailure {s : State} {h : HeadIx} {o : Order} (hpass : postFailure s h o = none) :
    (inputTags s o.chain).Nodup ∧ ∀ t ∈ inputTags s o.chain, t ≠ 0 := by
  have hfit : tagsFit s [] o.chain = true := by
    unfold Order.chain
    cases hc : o.chain? with
    | none => rfl
    | some legs =>
      cases hp : s.headPage[h].present with
      | false => rw [postFailure_absent hp] at hpass; cases hpass
      | true =>
        have hwell : chainWellFormed s h legs = true := by
          by_contra hill
          rw [postFailure_chained hp hc, Bool.eq_false_of_not_eq_true hill] at hpass
          cases hpass
        exact (Bool.and_eq_true_iff.mp hwell).2
  obtain ⟨hzero, hapart⟩ := (tagsFit_iff_pairwise s [] o.chain).mp hfit
  unfold inputTags
  refine ⟨?_, fun t ht => ?_⟩
  · rw [List.Nodup, List.pairwise_map, List.pairwise_filter]
    exact hapart.imp fun hlm hl hm => hlm hl hm
  · obtain ⟨l, hl, rfl⟩ := List.mem_map.mp ht
    obtain ⟨hmem, hpick⟩ := List.mem_filter.mp hl
    exact (hzero l hmem hpick).1

theorem inputPick_eq_true_iff {s : State} {l : Leg} :
    inputPick s l = true ↔ l.action = .pick ∧ s.zoneType l.zone = some .input := by
  simp [inputPick]

/-- An input pick whose checks pass has a tag that is neither carried nor pending (R132). -/
theorem checkLeg_fresh {s : State} {h : HeadIx} {l : Leg} {k k' : Walk} (hk : checkLeg s h l k = .ok k')
    (hl : inputPick s l = true) : dupTag s l.tag = false := by
  obtain ⟨haction, hzone⟩ := inputPick_eq_true_iff.mp hl
  simp only [checkLeg, haction, hzone, checkInputPick] at hk
  split_ifs at hk with hdrain hnozzle hdup
  exact Bool.eq_false_of_not_eq_true hdup

theorem checkLegs_fresh {s : State} {h : HeadIx} {legs : List Leg} {k k' : Walk}
    (hk : checkLegs s h legs k = .ok k') : ∀ t ∈ inputTags s legs, dupTag s t = false := by
  induction legs generalizing k with
  | nil => exact nofun
  | cons l rest ih =>
    rw [checkLegs] at hk
    split at hk
    next k1 hleg =>
      cases hl : inputPick s l with
      | true =>
        rw [inputTags_cons_of_pick hl, List.forall_mem_cons]
        exact ⟨checkLeg_fresh hleg hl, ih hk⟩
      | false =>
        rw [inputTags_cons_of_not_pick hl]
        exact ih hk
    next => cases hk

theorem refusalChecks_fresh {s : State} {h : HeadIx} {legs : List Leg} {walk : Walk}
    (hwalk : refusalChecks s h legs = .ok walk) : ∀ t ∈ inputTags s legs, dupTag s t = false := by
  unfold refusalChecks at hwalk
  split_ifs at hwalk
  exact checkLegs_fresh hwalk

/-- The DUP TAG check passes a tag that is neither pending nor carried (R132). -/
theorem dupTag_eq_false_iff (s : State) (t : Tag) :
    dupTag s t = false ↔ (∀ c, s.ledger.carried c ≠ some t) ∧ t ∉ s.ledger.pending := by
  have hcarried : tagCarried s t = true ↔ ∃ c, s.ledger.carried c = some t := by
    simp only [tagCarried, carriedUnits_eq_filterMap, List.any_eq_true, List.mem_filterMap, mem_allCarriers, true_and,
      beq_iff_eq, carried_ledger_iff]
    grind
  have hpending : s.pendingTags.contains t = true ↔ t ∈ s.ledger.pending := List.contains_iff_mem
  rw [dupTag, Bool.or_eq_false_iff, ← Bool.not_eq_true, ← Bool.not_eq_true, hcarried, hpending, not_exists]

section

variable {h : HeadIx} {k : SlotIx} {s : State}

/-- An order refused at its evaluation leaves the tags: it was not CLEARED. -/
theorem refuseAtFetch_keepsTags (hb : s.book.Sound) (hk : k = s.book.fetchIndex h)
    (hwaiting : (s.order h k).state ≠ .cleared) (r : Reason) : KeepsTags s (refuseAtFetch h k r s) := by
  have hrefused : KeepsTags (stopHolding h s) (refuseOrder h k r true (stopHolding h s)) :=
    refuseOrder_keepsTags (by rw [order_stopHolding]; exact hwaiting) r true
  have hrest : (refuseOrder h k r true (stopHolding h s)).book.Resting h := by
    rw [book_refuseOrder, book_stopHolding]
    exact hb.resting_setOrder hk rfl
  exact (stopHolding_keepsTags h s).trans <| hrefused.trans <|
    (advanceFetch_keepsTags hrest).trans (answer_keepsTags h _ _)

theorem keepHeld_keepsTags (hwaiting : (s.order h k).state ≠ .cleared) : KeepsTags s (keepHeld h k s) :=
  (setOrder_keepsTags (o := { s.order h k with blocker := (waitsOn s h).head? }) hwaiting hwaiting).trans
    (answer_keepsTags h _ _)

theorem enterHeld_keepsTags (hb : s.book.Sound) (hk : s.book.Fetchable h k) {st : OrderState} (hst : st ≠ .cleared)
    (fromPosted : Bool) : KeepsTags s (enterHeld h k st fromPosted s) := by
  have hset : KeepsTags s (s.setOrder h k { s.order h k with state := st }) := setOrder_keepsTags hk.waiting hst
  have hend : ∀ t : State, t.book = (s.setOrder h k { s.order h k with state := st }).book →
      KeepsTags t (if waitCycle t then refuseAtFetch h k .deadlock t else keepHeld h k t) := by
    intro t ht
    rw [book_setOrder] at ht
    have hwaiting : (t.book.order h k).state ≠ .cleared := by
      rw [ht, OrderBook.setOrder_order_same]
      exact hst
    split_ifs
    · refine refuseAtFetch_keepsTags ?_ ?_ hwaiting _ <;> rw [ht]
      · exact hb.setOrder_fetchable hk rfl rfl
      · exact hk.index
    · exact keepHeld_keepsTags hwaiting
  have hstart : ∀ t, KeepsTags t (if fromPosted then startHold h t else t) ∧
      (if fromPosted then startHold h t else t).book = t.book := by
    intro t
    cases fromPosted
    · exact ⟨.refl, rfl⟩
    · exact ⟨.of_eq rfl rfl rfl, rfl⟩
  unfold enterHeld
  exact hset.trans ((hstart _).1.trans (hend _ (hstart _).2))

end

theorem pendingTags_clearOrder (h : HeadIx) (k : SlotIx) (legs : List Leg) (s : State) :
    (clearOrder h k legs s).pendingTags = (inputTags s legs).foldl (fun ts t => pendTag t ts) s.pendingTags := by
  have hclaimed : (claimZones h (neededZones s h legs) s).pendingTags = s.pendingTags :=
    foldl_keeps State.pendingTags (f := fun t z => claimZone h z t) (fun t z => t.setZone_pendingTags z _) _ s
  have hreserved : ∀ t, (reserveSockets h k (namedSockets s legs) t).pendingTags = t.pendingTags :=
    foldl_keeps State.pendingTags (f := fun t i => reserveSocket h k i t) (fun t i => t.setSocket_pendingTags i _) _
  have hpended : ∀ l t, (pendTags l t).pendingTags = l.foldl (fun ts t => pendTag t ts) t.pendingTags := fun _ _ => rfl
  have hanswer : ∀ w t, (answer h w t).pendingTags = t.pendingTags := fun _ _ => rfl
  unfold clearOrder
  dsimp only
  rw [hanswer, (compareLines_only _ _).pendingTags, State.setOrder_pendingTags, hpended,
    (stopHolding_events h _).pendingTags, hreserved, hclaimed]

/-- In the book, the cleared order stands in its slot with its legs and its count of legs completed (R77). -/
theorem book_clearOrder (h : HeadIx) (k : SlotIx) (legs : List Leg) (s : State) :
    ∃ p, (clearOrder h k legs s).book =
      s.book.setOrder h k { s.order h k with state := .cleared, blocker := none, resolved := p } := by
  have hset : ∀ t : State, t.book = s.book →
      (t.setOrder h k
        { t.order h k with state := .cleared, blocker := none, resolved := some t.pointers[h] }).book =
      s.book.setOrder h k { s.order h k with state := .cleared, blocker := none, resolved := some t.pointers[h] } := by
    intro t ht
    have horder : t.order h k = s.order h k := congrArg (fun b => b.order h k) ht
    rw [book_setOrder, ht, horder]
  unfold clearOrder
  dsimp only
  rw [book_answer, book_compareLines, hset]
  · exact ⟨_, rfl⟩
  · simp only [book_pendTags, book_stopHolding, book_reserveSockets, book_claimZones]

section

variable {h : HeadIx} {k : SlotIx} {s : State}

/-- A cleared order's tags to pick become pending, and are those it has left (R77, R131). -/
theorem ledger_clearOrder (hb : s.book.Sound) (hk : s.book.Fetchable h k) :
    (clearOrder h k (s.order h k).chain s).ledger = s.ledger.clear h (inputTags s (s.order h k).chain) := by
  have hzero : (s.order h k).completed = 0 := (hb.fits h k hk.live).2.1 hk.waiting
  have hinput : inputTags s.book.pages = inputTags s := inputTags_of_zonePage (s := s) (t := s.book.pages) rfl
  obtain ⟨p, hbook⟩ := book_clearOrder h k (s.order h k).chain s
  unfold State.ledger
  rw [account_clearOrder, pendingTags_clearOrder, hbook, OrderBook.tagsLeft_setOrder_at hk.index, if_pos rfl, hinput]
  dsimp only
  rw [hzero, List.drop_zero]
  rfl

/-- An order whose refusal checks pass may be cleared. -/
theorem clearOrder_unique (hb : s.book.Sound) (hk : s.book.Fetchable h k) (hs : s.ledger.Unique)
    (hfresh : ∀ t ∈ inputTags s (s.order h k).chain, dupTag s t = false) :
    (clearOrder h k (s.order h k).chain s).ledger.Unique := by
  have hnone : s.ledger.left h = [] := OrderBook.tagsLeft_of_not_cleared (hk.index ▸ hk.waiting)
  rw [ledger_clearOrder hb hk]
  exact hs.clear hnone (fun t ht => ((dupTag_eq_false_iff s t).mp (hfresh t ht)).2)
    fun t ht => ((dupTag_eq_false_iff s t).mp (hfresh t ht)).1

theorem joinZones_keepsTags (h : HeadIx) (l : List ZoneIx) (s : State) : KeepsTags s (joinZones h l s) := by
  refine .foldl (f := fun t z => joinZoneList h z t) (fun t z => ?_) l s
  unfold joinZoneList
  split_ifs
  · exact .refl
  · exact .of_eq rfl rfl rfl

theorem joinSockets_keepsTags (h : HeadIx) (l : List SocketIx) (s : State) : KeepsTags s (joinSockets h l s) :=
  .foldl (f := fun t i => joinSocketList h i t) (fun _ _ => .of_eq rfl rfl rfl) l s

theorem zoneStage_unique (hb : s.book.Sound) (hk : s.book.Fetchable h k) (hs : s.ledger.Unique)
    (hfresh : ∀ t ∈ inputTags s (s.order h k).chain, dupTag s t = false) :
    (zoneStage h k (s.order h k).chain s).ledger.Unique := by
  have hst : OrderState.zoneWait ≠ .cleared := nofun
  unfold zoneStage
  dsimp only
  split_ifs
  · exact (refuseAtFetch_keepsTags hb hk.index hk.waiting _).unique hs
  · exact (keepHeld_keepsTags hk.waiting).unique hs
  · refine KeepsTags.unique ((joinZones_keepsTags h _ s).trans (enterHeld_keepsTags ?_ ?_ hst _)) hs <;>
      rw [book_joinZones]
    · exact hb
    · exact hk
  · exact clearOrder_unique hb hk hs hfresh

theorem evaluate_unique (hb : s.book.Sound) (hk : s.book.Fetchable h k) (hs : s.ledger.Unique) :
    (evaluate h k s).ledger.Unique := by
  have hst : OrderState.socketWait ≠ .cleared := nofun
  unfold evaluate
  dsimp only
  split
  next => exact (refuseAtFetch_keepsTags hb hk.index hk.waiting _).unique hs
  next walk hwalk =>
    split_ifs
    · exact (refuseAtFetch_keepsTags hb hk.index hk.waiting _).unique hs
    · exact (keepHeld_keepsTags hk.waiting).unique hs
    · refine KeepsTags.unique ((joinSockets_keepsTags h _ s).trans (enterHeld_keepsTags ?_ ?_ hst _)) hs <;>
        rw [book_joinSockets]
      · exact hb
      · exact hk
    · exact zoneStage_unique hb hk hs (refusalChecks_fresh hwalk)

theorem fetchLive_unique (hb : s.book.Sound) (hk : k = s.book.fetchIndex h) (honline : s.heads[h].online = true)
    (hlive : (s.order h k).state.live = true) (hwaiting : (s.order h k).state ≠ .cleared) (hs : s.ledger.Unique) :
    (fetchLive h k s).ledger.Unique := by
  unfold fetchLive
  split_ifs with hfaulted hmasked hhalt
  · exact (answer_keepsTags h _ s).unique hs
  · exact (answer_keepsTags h _ s).unique hs
  · exact (answer_keepsTags h _ s).unique hs
  · exact evaluate_unique hb ⟨hk, honline, Bool.eq_false_of_not_eq_true hfaulted, hlive, hwaiting⟩ hs

theorem passOver_keepsTags (hb : s.book.Sound) (hk : k = s.book.fetchIndex h) {r : Reason}
    (hr : (s.order h k).state = .refused r) : KeepsTags s (passOver h k r s) := by
  have hold : (s.order h k).state ≠ .cleared := by rw [hr]; exact nofun
  have hlive : (s.order h k).state.live = false := by rw [hr]; rfl
  unfold passOver
  split_ifs
  · exact answer_keepsTags h _ s
  · have hset : KeepsTags s (s.setOrder h k { s.order h k with skipGiven := true }) := setOrder_keepsTags hold hold
    refine hset.trans ((advanceFetch_keepsTags ?_).trans (answer_keepsTags h _ _))
    rw [book_setOrder]
    exact hb.resting_setOrder hk hlive

theorem fetchAtIndex_unique (hb : s.book.Sound) (hk : k = s.book.fetchIndex h) (honline : s.heads[h].online = true)
    (hs : s.ledger.Unique) : (fetchAtIndex h k s).ledger.Unique := by
  unfold fetchAtIndex
  cases hstate : (s.order h k).state
  case free | filling | done | aborted | cleared => exact (answer_keepsTags h _ s).unique hs
  case refused r => exact (passOver_keepsTags hb hk hstate).unique hs
  case posted | socketWait | zoneWait =>
    exact fetchLive_unique hb hk honline (by rw [hstate]; rfl) (by rw [hstate]; exact nofun) hs

end

theorem fetchOutOfOrder_keepsTags (h : HeadIx) (k : SlotIx) (s : State) : KeepsTags s (fetchOutOfOrder h k s) :=
  .of_eq (account_fetchOutOfOrder h k s) (captureFault_only _ _).pendingTags (fetchOutOfOrder_keeps h k s).book

theorem fetchHeader_unique (h : HeadIx) (k : SlotIx) {s : State} (ho : OrdersSound s) (hs : s.ledger.Unique) :
    (fetchHeader h k s).ledger.Unique := by
  have hgranted : KeepsTags s (s.grant (.drive h)) := .of_eq rfl rfl rfl
  unfold fetchHeader
  dsimp only
  split_ifs with hoff hindex
  · exact (hgranted.trans (answer_keepsTags h _ _)).unique hs
  · obtain ⟨-, -, honline⟩ := not_or.mp hoff |>.imp_right not_or.mp
    exact fetchAtIndex_unique ((grant_keeps (.drive h) s).sound ho).book hindex
      (Bool.eq_true_of_not_eq_false honline) (hgranted.unique hs)
  · exact (hgranted.trans (fetchOutOfOrder_keepsTags h k _)).unique hs

/-! ### Reports (R84 to R98, R131) -/

section

variable {h : HeadIx} {n : NozzleId} {i : SocketIx} {s : State}

theorem pickMissed_keepsTags : KeepsTags s (pickMissed i s) := changePhase_keepsTags (.of_tag rfl)

/-- A unit picked from a socket moves to the nozzle with its tag (R90). -/
theorem pickSite_keepsTags : KeepsTags s (pickSite h n i s).1 := by
  unfold pickSite
  split
  next => exact pickMissed_keepsTags
  next => exact pickMissed_keepsTags
  next =>
    split
    next u hunit =>
      refine ⟨?_, (changePhase_only i _ _).pendingTags, congrArg OrderBook.tagsLeft (book_pickTaken i h _)⟩
      rw [account_pickTaken, account_setContent]
      exact .take hunit
    next => exact .refl
  next => exact .refl

theorem placeMissed_keepsTags : KeepsTags s (placeMissed i s) := by
  unfold placeMissed
  split
  · exact .refl
  · exact changePhase_keepsTags (.none _)
  · exact changePhase_keepsTags (.of_tag rfl)

/-- A unit placed in a socket keeps its tag (R91, R127). -/
theorem placeUnit_keepsTags : KeepsTags s (placeUnit h n i s) := by
  unfold placeUnit
  split
  next u hholds hphase =>
    refine ⟨?_, (changePhase_only i _ _).pendingTags, congrArg OrderBook.tagsLeft (book_unitPlaced i h _ _)⟩
    rw [account_unitPlaced, account_setContent]
    exact .place hholds rfl
  next => exact .refl

theorem placeSite_keepsTags : KeepsTags s (placeSite h n i s).1 := by
  unfold placeSite
  split_ifs
  · exact placeMissed_keepsTags
  · exact placeMissed_keepsTags
  · exact .refl
  · exact placeMissed_keepsTags
  · exact placeUnit_keepsTags

theorem countDelivery_keepsTags (c : ClassIx) (s : State) : KeepsTags s (countDelivery c s) := by
  refine ⟨?_, rfl, rfl⟩
  rw [account_countDelivery]
  exact .in_place fun _ _ => id

/-- A unit delivered takes its tag off the deck (R92, R129). -/
theorem deliverUnit_keepsTags : KeepsTags s (deliverUnit h n s) := by
  unfold deliverUnit
  split
  · split
    · exact (setContent_keepsTags (c := .empty) (.none _)).trans (countDelivery_keepsTags _ _)
    · exact .refl
  · exact .refl

theorem placeBin_keepsTags : KeepsTags s (placeBin h n s).1 := by
  unfold placeBin
  split_ifs
  · exact .refl
  · exact .refl
  · exact deliverUnit_keepsTags

/-- A completed leg that is no input pick moves units with their tags, or takes them off the deck. -/
theorem legEffect_keepsTags {l : Leg} (hl : inputPick s l = false) (p : NozzleId) :
    KeepsTags s (legEffect h p l s).1 := by
  unfold legEffect
  dsimp only
  split
  next haction hzone => exact absurd (inputPick_eq_true_iff.mpr ⟨haction, hzone⟩) (Bool.eq_false_iff.mp hl)
  next => exact pickSite_keepsTags
  next => exact placeSite_keepsTags
  next => exact placeBin_keepsTags
  next => exact .refl

theorem pendingTags_unpendTag (t : Tag) (s : State) :
    (unpendTag t s).pendingTags = s.pendingTags.filter (fun u => !([t] : List Tag).contains u) := by
  refine List.filter_congr fun u _ => ?_
  simp [bne, beq_eq_decide]

theorem legEffect_of_inputPick {l : Leg} (hl : inputPick s l = true) (p : NozzleId) :
    legEffect h p l s = pickInput h (l.nozzle.resolve p) l s := by
  obtain ⟨haction, hzone⟩ := (inputPick_iff s l).mp hl
  exact legEffect_pickInput haction hzone h p

/-- An input pick takes its tag out of the pending set, and may create its unit (R89, R93). -/
theorem pickInput_cases (l : Leg) : (pickInput h n l s).1 = unpendTag l.tag s ∨
    (pickInput h n l s).1 = createUnit h n l.tag (unpendTag l.tag s) := by
  unfold pickInput
  dsimp only
  split
  · exact .inl rfl
  · exact .inl rfl
  · exact .inr rfl
  · exact .inl rfl

end

section

variable {h : HeadIx} {k : SlotIx} {s : State} (hk : k = s.book.fetchIndex h)
  (hcleared : (s.order h k).state = .cleared)
include hk hcleared

/-- The tags that the CLEARED order at the fetch index has left are those of the legs not completed. -/
theorem left_of_cleared : s.ledger.left h = inputTags s ((s.order h k).chain.drop (s.order h k).completed) := by
  subst hk
  exact (tagsLeft_book s h).trans (congrArg (inputTags s) (if_pos hcleared))

/-- A leg more is completed, after an effect that leaves the book. -/
theorem ledger_setCompleted {t : State} (hbook : t.book = s.book) (n : Nat) : (setCompleted h k n t).ledger =
    { carried := t.account.tag, pending := t.pendingTags
      left := Function.update s.ledger.left h (inputTags s ((s.order h k).chain.drop n)) } := by
  have hinput : inputTags s.book.pages = inputTags s := inputTags_of_zonePage (s := s) (t := s.book.pages) rfl
  have hstate : (s.book.order h k).state = .cleared := hcleared
  unfold State.ledger
  rw [account_setCompleted, book_setCompleted, hbook, OrderBook.tagsLeft_setOrder_at hk, hinput, if_pos hstate]
  rfl

end

theorem inputTags_sublist {s : State} {l m : List Leg} (hsub : l.Sublist m) :
    (inputTags s l).Sublist (inputTags s m) := (hsub.filter _).map _

/-- The tags that a CLEARED order has left are each left once, and none is 0. -/
theorem left_sound {h : HeadIx} {s : State} (hb : s.book.Sound) :
    (s.ledger.left h).Nodup ∧ ∀ t ∈ s.ledger.left h, t ≠ 0 := by
  by_cases hcleared : (s.orderAt h).state = .cleared
  · have hpass : postFailure s h (s.orderAt h) = none := by
      rw [← postFailure_book]
      exact (hb.fits h _ (OrderState.live_of_cleared hcleared)).1
    obtain ⟨hnodup, hzero⟩ := inputTags_of_postFailure hpass
    have hsub : (s.ledger.left h).Sublist (inputTags s (s.orderAt h).chain) := by
      rw [left_of_cleared (k := s.fetchIndex[h]) rfl hcleared]
      exact inputTags_sublist (List.drop_sublist _ _)
    exact ⟨hnodup.sublist hsub, fun t ht => hzero t (hsub.subset ht)⟩
  · have hnone : s.ledger.left h = [] := OrderBook.tagsLeft_of_not_cleared hcleared
    rw [hnone]
    exact ⟨List.nodup_nil, nofun⟩

section

variable {h : HeadIx} {k : SlotIx} {s : State} (hb : s.book.Sound) (hk : k = s.book.fetchIndex h)
  (hcleared : (s.order h k).state = .cleared) (hs : s.ledger.Unique)
include hb hk hcleared hs

/-- The first leg left is completed: an input pick's tag leaves the pending set, and is that of its new unit, if there
is one. -/
theorem leg_completed_unique {l : Leg} (hl : (s.order h k).chain[(s.order h k).completed]? = some l) (p : NozzleId) :
    (setCompleted h k ((s.order h k).completed + 1) (legEffect h p l s).1).ledger.Unique := by
  obtain ⟨hlt, hget⟩ := List.getElem?_eq_some_iff.mp hl
  obtain ⟨hnodup, hzero⟩ := left_sound (h := h) hb
  have hleft := left_of_cleared hk hcleared
  rw [List.drop_eq_getElem_cons hlt, hget] at hleft
  have hdone := ledger_setCompleted hk hcleared (book_legEffect h p l s) ((s.order h k).completed + 1)
  cases hpick : inputPick s l with
  | false =>
    have hkept := legEffect_keepsTags (h := h) hpick p
    rw [inputTags_cons_of_not_pick hpick] at hleft
    rw [← hleft, Function.update_eq_self] at hdone
    have hsame : s.ledger.left = (legEffect h p l s).1.ledger.left := hkept.left.symm
    rw [hdone, hsame]
    exact hkept.unique hs
  | true =>
    rw [inputTags_cons_of_pick hpick] at hleft
    rw [legEffect_of_inputPick hpick] at hdone ⊢
    have hmem : l.tag ∈ s.ledger.left h := hleft ▸ List.mem_cons_self
    have hdropped := hs.drop (gone := [l.tag]) hleft (show (l.tag :: _).Nodup from hleft ▸ hnodup)
    rw [hdone]
    obtain hcase | hcase := pickInput_cases (h := h) (n := l.nozzle.resolve p) (s := s) l
    · rw [hcase, pendingTags_unpendTag]
      exact hdropped
    · have hfree : ∀ c, s.ledger.carried c ≠ some l.tag := fun c hc =>
        hs.unpended c _ hc ((hs.mem_pending _).mpr ⟨h, hmem⟩)
      have hgone : l.tag ∉ (s.ledger.drop h [l.tag] (inputTags s
          ((s.order h k).chain.drop ((s.order h k).completed + 1)))).pending := fun hp =>
        (TagLedger.mem_pending_drop.mp hp).2 List.mem_cons_self
      have hpending : (createUnit h (l.nozzle.resolve p) l.tag (unpendTag l.tag s)).pendingTags =
          (unpendTag l.tag s).pendingTags := rfl
      have htag : (createUnit h (l.nozzle.resolve p) l.tag (unpendTag l.tag s)).account.tag =
          Function.update s.account.tag (.nozzle h (l.nozzle.resolve p)) (some l.tag) := by
        rw [account_createUnit]
        exact Account.tag_setNozzle s.account h _ (.holding (newUnit l.tag))
      rw [hcase, hpending, pendingTags_unpendTag, htag]
      exact hdropped.carry (hzero _ hmem) hgone hfree (.nozzle h (l.nozzle.resolve p))

end

/-! ### The ends of an order (R95 to R98) -/

theorem dropReservationsBut_keepsTags (h : HeadIx) (k : SlotIx) (keep : List SocketIx) (s : State) :
    KeepsTags s (dropReservationsBut h k keep s) :=
  .of_eq (account_dropReservationsBut h k keep s) (by dsimp only [dropReservationsBut])
    (book_dropReservationsBut h k keep s)

theorem pendingTags_releaseTo (h : HeadIx) (z : ZoneIx) (keep : List ZoneIx) (s : State) :
    (releaseTo h z keep s).pendingTags = s.pendingTags := by
  dsimp only [releaseTo, setResting, releaseBut, State.setHead]

theorem releaseTo_keepsTags (h : HeadIx) (z : ZoneIx) (keep : List ZoneIx) (s : State) :
    KeepsTags s (releaseTo h z keep s) :=
  .of_eq (account_releaseTo h z keep s) (pendingTags_releaseTo h z keep s) (book_releaseTo h z keep s)

theorem pendingTags_orderDone (h : HeadIx) (k : SlotIx) (legs : List Leg) (l : Leg) (s : State) :
    (orderDone h k legs l s).pendingTags = s.pendingTags := by
  have hflip : ∀ t, (flipPointer h legs t).pendingTags = t.pendingTags := by
    intro t
    unfold flipPointer
    split_ifs <;> rfl
  rw [orderDone, advanceFetch, State.setFetchIndex_pendingTags, setOrderState, State.setOrder_pendingTags, hflip,
    pendingTags_releaseTo]

theorem pendingTags_orderAborted (h : HeadIx) (k : SlotIx) (c : AbortCode) (l : Leg) (after : List Leg) (s : State) :
    (orderAborted h k c l after s).pendingTags =
      s.pendingTags.filter (fun t => !(inputTags s after).contains t) := by
  have hcause : ∀ t, (giveAbortCause c h t).pendingTags = t.pendingTags := fun t => by cases c <;> rfl
  unfold orderAborted
  dsimp only
  rw [(captureFault_only _ _).pendingTags, advanceFetch, State.setFetchIndex_pendingTags, setOrderState,
    State.setOrder_pendingTags, pendingTags_releaseTo, hcause]
  dsimp only [unpendTags, dropReservationsBut]

section

variable {h : HeadIx} {k : SlotIx} {s v : State} {p : Order} (hb : s.book.Sound) (hk : k = s.book.fetchIndex h)
  (hbook : v.book = s.book.setOrder h k p)
include hb hk hbook

/-- An order that is changed and then ended leaves its head no tag. -/
theorem left_ended {t : State} {o : Order} {f : SlotIx} (ho : o.state.live = false)
    (ht : t.book = (v.book.setOrder h k o).setFetch h f) :
    t.ledger.left = Function.update v.ledger.left h [] := by
  have hchanged : v.ledger.left = Function.update s.ledger.left h _ :=
    (congrArg OrderBook.tagsLeft hbook).trans (OrderBook.tagsLeft_setOrder_at hk)
  rw [hbook, OrderBook.setOrder_setOrder] at ht
  rw [hchanged, Function.update_idem]
  exact (congrArg OrderBook.tagsLeft ht).trans (hb.tagsLeft_endOrder hk ho f)

/-- An order with no tag left may end as DONE (R95). -/
theorem orderDone_keepsTags (hnone : v.ledger.left h = []) (legs : List Leg) (l : Leg) :
    KeepsTags v (orderDone h k legs l v) := by
  refine ⟨.of_eq (account_orderDone h k legs l v), pendingTags_orderDone h k legs l v, ?_⟩
  have hended := left_ended hb hk hbook (o := { v.book.order h k with state := .done }) rfl
    (book_orderDone h k legs l v)
  rw [← hnone, Function.update_eq_self] at hended
  exact hended

/-- An order may end as ABORTED, the tags that it has left leaving the pending set (R97). -/
theorem orderAborted_unique (hv : v.ledger.Unique) {after : List Leg} (hleft : v.ledger.left h = inputTags v after)
    (hnodup : (inputTags v after).Nodup) (c : AbortCode) (l : Leg) :
    (orderAborted h k c l after v).ledger.Unique := by
  have hended := left_ended hb hk hbook (o := { v.book.order h k with state := .aborted c }) rfl
    (book_orderAborted h k c l after v)
  have hledger : (orderAborted h k c l after v).ledger = v.ledger.drop h (inputTags v after) [] := by
    ext1
    case carried => exact congrArg Account.tag (account_orderAborted h k c l after v)
    case pending => exact pendingTags_orderAborted h k c l after v
    case left => exact hended
  rw [hledger]
  exact hv.drop (hleft.trans (List.append_nil _).symm) ((List.append_nil _).symm ▸ hnodup)

end

/-- The state after the effect of leg l, number j of an order, with the leg completed and the reservations dropped that
no later leg needs (R88, R94). -/
def legTaken (h : HeadIx) (k : SlotIx) (legs : List Leg) (j : Nat) (l : Leg) (s : State) : State :=
  dropReservationsBut h k (namedSockets s (legs.drop (j + 1)))
    (setCompleted h k (j + 1) (legEffect h (activeNozzle s h (s.order h k)) l s).1)

/-- After its leg is taken an order ends as ABORTED, or with its last leg as DONE, or goes on (R88, R95, R97). -/
theorem completeLeg_cases (h : HeadIx) (k : SlotIx) (legs : List Leg) (j : Nat) (l : Leg) (s : State) :
    ∃ t, completeLeg h k legs j l s = compareLines (linesOf t h legs) t ∧
      ((∃ c, t = orderAborted h k c l (legs.drop (j + 1)) (legTaken h k legs j l s)) ∨
        (legs.drop (j + 1) = [] ∧ t = orderDone h k legs l (legTaken h k legs j l s)) ∨
        t = releaseTo h l.zone ((legs.drop (j + 1)).map Leg.zone) (legTaken h k legs j l s)) := by
  refine ⟨_, rfl, ?_⟩
  split
  next c _ => exact .inl ⟨c, rfl⟩
  next =>
    split_ifs with hlast
    · exact .inr (.inl ⟨List.isEmpty_iff.mp hlast, rfl⟩)
    · exact .inr (.inr rfl)

theorem book_legTaken (h : HeadIx) (k : SlotIx) (legs : List Leg) (j : Nat) (l : Leg) (s : State) :
    (legTaken h k legs j l s).book = s.book.setOrder h k { s.book.order h k with completed := j + 1 } := by
  rw [legTaken, book_dropReservationsBut, book_setCompleted, book_legEffect]

section

variable {h : HeadIx} {k : SlotIx} {s : State} (hb : s.book.Sound) (hk : k = s.book.fetchIndex h)
  (hcleared : (s.order h k).state = .cleared) (hs : s.ledger.Unique)
include hb hk hcleared hs

/-- A report done of the first leg left: the order goes on with the tags of the later legs, or ends with none (R88). -/
theorem completeLeg_unique {l : Leg} (hl : (s.order h k).chain[(s.order h k).completed]? = some l) :
    (completeLeg h k (s.order h k).chain (s.order h k).completed l s).ledger.Unique := by
  have hbook := book_legTaken h k (s.order h k).chain (s.order h k).completed l s
  have hdropped : KeepsTags _ (legTaken h k (s.order h k).chain (s.order h k).completed l s) :=
    dropReservationsBut_keepsTags h k _ _
  have htaken := hdropped.unique (leg_completed_unique hb hk hcleared hs hl (activeNozzle s h (s.order h k)))
  have hinput : inputTags (legTaken h k (s.order h k).chain (s.order h k).completed l s) = inputTags s :=
    inputTags_of_zonePage (congrArg OrderBook.zonePage hbook)
  have hleft : (legTaken h k (s.order h k).chain (s.order h k).completed l s).ledger.left h =
      inputTags s ((s.order h k).chain.drop ((s.order h k).completed + 1)) := by
    have hdone := ledger_setCompleted hk hcleared (book_legEffect h (activeNozzle s h (s.order h k)) l s)
      ((s.order h k).completed + 1)
    exact (congrFun hdropped.left h).trans ((congrArg (fun t => t.left h) hdone).trans (Function.update_self _ _ _))
  have hnodup : (inputTags s ((s.order h k).chain.drop ((s.order h k).completed + 1))).Nodup := by
    have hsub := inputTags_sublist (s := s)
      (List.drop_sublist_drop_left (s.order h k).chain (Nat.le_succ (s.order h k).completed))
    rw [← left_of_cleared hk hcleared] at hsub
    exact (left_sound hb).1.sublist hsub
  obtain ⟨t, ht, hcase⟩ := completeLeg_cases h k (s.order h k).chain (s.order h k).completed l s
  rw [ht]
  refine (compareLines_keepsTags _ t).unique ?_
  obtain ⟨c, rfl⟩ | ⟨hlast, rfl⟩ | rfl := hcase
  · exact orderAborted_unique hb hk hbook htaken (hleft.trans (by rw [hinput])) (by rw [hinput]; exact hnodup) c l
  · rw [hlast] at hleft
    exact (orderDone_keepsTags hb hk hbook hleft _ l).unique htaken
  · exact (releaseTo_keepsTags h _ _ _).unique htaken

end

/-! ### Leg failure (R98) -/

theorem legFailSockets_keepsTags (l : List SocketIx) (s : State) : KeepsTags s (legFailSockets l s) := by
  exact .of_eq (account_legFailSockets l s) (legFailSockets_only l s).pendingTags (book_legFailSockets l s)

/-- Nozzles made SUSPECT keep their units (R98). -/
theorem suspectNozzles_keepsTags (h : HeadIx) (p : NozzleId) (legs : List Leg) (s : State) :
    KeepsTags s (suspectNozzles h p legs s) :=
  .foldl (f := fun t n => suspectNozzle h n t) (fun _ _ => setContent_keepsTags (.of_tag rfl)) _ s

section

variable {h : HeadIx} {k : SlotIx} {s : State} (hb : s.book.Sound) (hk : k = s.book.fetchIndex h)
  (hs : s.ledger.Unique)
include hb hk hs

/-- A report failed: the tags that the order has left leave the pending set with it (R98). -/
theorem failLeg_unique {rest : List Leg} (hleft : s.ledger.left h = inputTags s rest) (legs : List Leg) (l : Leg)
    (code : BitVec 8) : (failLeg h k legs rest l code s).ledger.Unique := by
  have hkept : KeepsTags s (suspectNozzles h (activeNozzle s h (s.order h k)) rest
      (legFailSockets (reservedSockets s h k) s)) :=
    (legFailSockets_keepsTags _ s).trans (suspectNozzles_keepsTags h _ rest _)
  have hledger : (failLeg h k legs rest l code s).ledger =
      (suspectNozzles h (activeNozzle s h (s.order h k)) rest
        (legFailSockets (reservedSockets s h k) s)).ledger.drop h (inputTags s rest) [] := by
    ext1
    case carried =>
      refine congrArg Account.tag ?_
      simp only [failLeg, account_compareLines, account_captureFault, account_advanceFetch, account_faultHead,
        account_setOrderState, account_unpendTags]
    case pending =>
      show (failLeg h k legs rest l code s).pendingTags = _
      unfold failLeg
      dsimp only
      rw [(compareLines_only _ _).pendingTags, (captureFault_only _ _).pendingTags, advanceFetch,
        State.setFetchIndex_pendingTags, faultHead, State.setHead_pendingTags, setOrderState,
        State.setOrder_pendingTags]
      rfl
    case left =>
      have hended : (failLeg h k legs rest l code s).ledger.left = Function.update s.ledger.left h [] := by
        show (failLeg h k legs rest l code s).book.tagsLeft = _
        simp only [failLeg, book_compareLines, book_captureFault, book_advanceFetch, book_faultHead,
          book_setOrderState, book_unpendTags, book_suspectNozzles, book_legFailSockets]
        exact hb.tagsLeft_endOrder hk (o := { s.book.order h k with state := .aborted .legFail }) rfl _
      have hsame : s.ledger.left = _ := hkept.left.symm
      rw [hended, hsame]
      rfl
  rw [hledger]
  have hleft' := (congrFun hkept.left h).trans hleft
  exact (hkept.unique hs).drop (hleft'.trans (List.append_nil _).symm)
    ((List.append_nil _).symm ▸ hleft ▸ (left_sound hb).1)

end

section

variable {h : HeadIx} {s : State}

theorem reportError_keepsTags (h : HeadIx) (k : SlotIx) (s : State) : KeepsTags s (reportError h k s) := by
  refine .of_eq (account_reportError h k s) ?_ (reportError_keeps h k s).book
  exact (giveCauseOnline_only _ _ _).pendingTags.trans (captureFault_only _ _).pendingTags

theorem takeLegDone_unique (hb : s.book.Sound) (hs : s.ledger.Unique) (w : Word) :
    (takeLegDone h w s).ledger.Unique := by
  unfold takeLegDone
  dsimp only
  split
  next l ha hl =>
    obtain ⟨-, -, hcleared⟩ := headState_moving (reportAccepted_moving ha)
    exact completeLeg_unique hb rfl hcleared hs hl
  next => exact (reportError_keepsTags h _ s).unique hs

theorem takeLegFailed_unique (hb : s.book.Sound) (hs : s.ledger.Unique) (w : Word) :
    (takeLegFailed h w s).ledger.Unique := by
  unfold takeLegFailed
  dsimp only
  split
  next l ha hl =>
    obtain ⟨-, -, hcleared⟩ := headState_moving (reportAccepted_moving ha)
    exact failLeg_unique hb rfl hs (left_of_cleared rfl hcleared) _ l _
  next => exact (reportError_keepsTags h _ s).unique hs

end

theorem passWrite_keepsTags (src : Source) (a : Nat) (w : Word) (s : State) : KeepsTags s (passWrite src a w s) :=
  .of_eq rfl rfl rfl

theorem writeReport_unique (h : HeadIx) (w : Word) {s : State} (hb : s.book.Sound) (hs : s.ledger.Unique) :
    (writeReport h w s).ledger.Unique := by
  have hwritten := (passWrite_keepsTags (.drive h) (reportAddr h) w s).unique hs
  have hbook : (passWrite (.drive h) (reportAddr h) w s).book.Sound := hb
  unfold writeReport
  dsimp only
  split
  · exact takeLegDone_unique hbook hwritten w
  · exact takeLegFailed_unique hbook hwritten w
  · exact (reportError_keepsTags h _ _).unique hwritten

/-! ### Control words (R13, R31, R32, R156 to R166) -/

/-- With nothing carried, pending or left, the tags are unique. -/
theorem TagLedger.unique_of_empty {l : TagLedger} (hcarried : ∀ c, l.carried c = none) (hpending : l.pending = [])
    (hleft : ∀ h, l.left h = []) : l.Unique := by
  refine ⟨fun c t hc => ?_, fun c t hc => ?_, fun c d t hc => ?_, ?_, fun t => ?_, fun h g t ht => ?_⟩
  · rw [hcarried] at hc; cases hc
  · rw [hcarried] at hc; cases hc
  · rw [hcarried] at hc; cases hc
  · rw [hpending]; exact List.nodup_nil
  · simp [hpending, hleft]
  · rw [hleft] at ht; cases ht

/-- DECK RESET leaves no unit, no pending tag and no order (R13). -/
theorem deckReset_unique (s : State) : (deckReset s).ledger.Unique := by
  refine TagLedger.unique_of_empty (fun c => ?_) rfl fun h => OrderBook.tagsLeft_of_not_cleared ?_
  · have hunit : unitAt (deckReset s) c = none := by
      cases c with
      | socket i => simp [unitAt, deckReset, takeSnapshot, deckCleared, Socket.reset, Phase.unit]
      | nozzle h n =>
        cases n <;> simp [unitAt, deckReset, takeSnapshot, deckCleared, State.nozzle, PerNozzle.get, NozzleContent.unit]
    exact congrArg tagOf ((unitAt_account _ c).trans hunit)
  · simp [State.book, deckReset, takeSnapshot, deckCleared, State.order, Order.freed]

theorem powerOn_unique (s : State) : (powerOn s).ledger.Unique :=
  KeepsTags.unique (s := State.reset) (.of_eq rfl rfl rfl) ((tagsUnique_iff _).mp reset_tagsUnique)

/-- Entry to RUN moves no unit and no order (R31). -/
theorem enterRun_keepsTags {s : State} (ho : OrdersSound s) (hm : s.mode = .setup) : KeepsTags s (enterRun s) := by
  refine ⟨.of_eq (account_enterRun ho hm), (captureStrays_only _ _).pendingTags, ?_⟩
  unfold enterRun
  rw [(captureStrays_keeps _ _).book]
  rfl

theorem setZone_keepsTags (z : ZoneIx) (r : ZoneRec) (s : State) : KeepsTags s (s.setZone z r) := .of_eq rfl rfl rfl

section

variable {h : HeadIx} {s : State}

/-- A head comes online with EMPTY nozzles and no held or CLEARED order (R156). -/
theorem bringOnline_keepsTags (hrest : s.book.Resting h) (z : ZoneIx) (f : SlotIx) (q : Seq) :
    KeepsTags s (bringOnline h z f q s) := by
  have hempty : ∀ n t, KeepsTags t (setContent h n .empty t) := fun _ _ => setContent_keepsTags (.none _)
  have hpointer : ∀ t, KeepsTags t (t.setPointer h .a) := fun _ => .of_eq rfl rfl rfl
  have hseq : ∀ t, KeepsTags t (t.setExpectedSeq h q) := fun _ => .of_eq rfl rfl rfl
  refine (setZone_keepsTags z _ s).trans <| (setHead_keepsTags h _ _).trans <| (hempty .a _).trans <|
    (hempty .b _).trans <| (hpointer _).trans <| (setFetchIndex_keepsTags ?_ f).trans <|
    (hseq _).trans (compareLines_keepsTags _ _)
  rw [book_setPointer, book_setContent, book_setContent, book_setHead]
  exact hrest

/-- A WAITING head's order is refused (R157). -/
theorem refuseWaiting_keepsTags (h : HeadIx) (s : State) : KeepsTags s (refuseWaiting h s) := by
  unfold refuseWaiting
  split_ifs with hheld
  · refine (stopHolding_keepsTags h s).trans (refuseOrder_keepsTags ?_ _ _)
    rw [order_stopHolding]
    exact OrderState.ne_cleared_of_held hheld
  · exact .refl

theorem takeOffDeck_keepsTags (h : HeadIx) (s : State) : KeepsTags s (takeOffDeck h s) := by
  have hleave : ∀ t, KeepsTags t (leaveResting h t) := by
    intro t
    unfold leaveResting
    split
    · split_ifs
      · exact setZone_keepsTags _ _ t
      · exact .refl
    · exact .refl
  exact (refuseWaiting_keepsTags h s).trans <| (hleave _).trans <|
    (setHead_keepsTags h _ _).trans (compareLines_keepsTags _ _)

theorem countDiscards_keepsTags (n : Nat) (s : State) : KeepsTags s (countDiscards n s) :=
  ⟨.in_place fun _ _ => id, rfl, rfl⟩

/-- A nozzle's action keeps its unit with its tag, or takes it off the deck (R130, R166). -/
theorem applyAction_keepsTags (h : HeadIx) (n : NozzleId) (a : NozzleAction) (s : State) :
    KeepsTags s (applyAction h n a s) := by
  cases a with
  | leave => exact .refl
  | keep =>
    refine setContent_keepsTags (.of_tag (congrArg tagOf ?_))
    obtain _ | u | _ | u := (s.nozzle h n).content <;> rfl
  | discard => exact (setContent_keepsTags (c := .empty) (.none _)).trans (countDiscards_keepsTags _ _)

theorem recoverHead_keepsTags (h : HeadIx) (z : ZoneIx) (a b : NozzleAction) (s : State) :
    KeepsTags s (recoverHead h z a b s) :=
  (applyAction_keepsTags h .a a s).trans <| (applyAction_keepsTags h .b b _).trans <|
    (releaseTo_keepsTags h z [] _).trans <| (setHead_keepsTags h _ _).trans (compareLines_keepsTags _ _)

theorem takeHeadOnline_keepsTags (hb : s.book.Sound) (w : Word) : KeepsTags s (takeHeadOnline w s).1 := by
  unfold takeHeadOnline
  cases s.mode with
  | setup => exact .refl
  | run =>
    dsimp only
    split_ifs with hstate
    · exact .refl
    · exact .refl
    · exact .refl
    · exact bringOnline_keepsTags (resting_of_offline hb (Bool.eq_false_of_not_eq_true (not_or.mp hstate).2)) _ _ _

theorem takeHeadOffline_keepsTags (w : Word) (s : State) : KeepsTags s (takeHeadOffline w s).1 := by
  unfold takeHeadOffline
  cases s.mode with
  | setup => exact .refl
  | run =>
    dsimp only
    cases headState s (ctlHead w)
    case offline | moving | faulted => exact .refl
    case idle | waiting =>
      dsimp only
      split_ifs
      · dsimp only
        exact takeOffDeck_keepsTags _ s
      · exact .refl

theorem checkRecover_keepsTags (h : HeadIx) (z : ZoneIx) (a b : NozzleAction) (s : State) :
    KeepsTags s (checkRecover h z a b s).1 := by
  unfold checkRecover
  cases headState s h
  case offline | waiting | moving => exact .refl
  case idle | faulted =>
    dsimp only
    split_ifs
    · exact .refl
    · split
      · exact .refl
      · exact .refl
      · exact recoverHead_keepsTags h z a b s

theorem takeHeadRecover_keepsTags (w : Word) (s : State) : KeepsTags s (takeHeadRecover w s).1 := by
  unfold takeHeadRecover
  split
  · cases s.mode with
    | setup => exact .refl
    | run => exact checkRecover_keepsTags _ _ _ _ s
  · exact .refl

theorem takeMask_keepsTags (w : Word) (s : State) : KeepsTags s (takeMask w s).1 := by
  unfold takeMask
  cases s.mode with
  | setup => exact .refl
  | run =>
    dsimp only
    split_ifs
    · exact setHead_keepsTags _ _ s
    · exact .refl

theorem takeMaskClear_keepsTags (w : Word) (s : State) : KeepsTags s (takeMaskClear w s).1 := by
  unfold takeMaskClear
  cases s.mode with
  | setup => exact .refl
  | run =>
    dsimp only
    split_ifs
    · exact setHead_keepsTags _ _ s
    · exact .refl

theorem takeDrain_keepsTags (s : State) : KeepsTags s (takeDrain s).1 := by
  unfold takeDrain
  cases s.mode <;> exact ⟨.refl s.account, rfl, rfl⟩

theorem takeClearTallies_keepsTags (s : State) : KeepsTags s (takeClearTallies s).1 := by
  unfold takeClearTallies
  split_ifs
  · exact ⟨.in_place fun _ _ => id, rfl, rfl⟩
  · exact .refl

theorem takeModeRun_keepsTags (ho : OrdersSound s) : KeepsTags s (takeModeRun s).1 := by
  unfold takeModeRun
  cases hm : s.mode with
  | run => exact .refl
  | setup =>
    cases profileFailure s with
    | some f => exact .of_eq rfl rfl rfl
    | none => exact enterRun_keepsTags ho hm

theorem takeModeSetup_unique (hs : s.ledger.Unique) : (takeModeSetup s).1.ledger.Unique := by
  unfold takeModeSetup
  cases s.mode with
  | setup => exact hs
  | run =>
    dsimp only
    split_ifs
    · exact hs
    · exact hs
    · exact deckReset_unique s

theorem commandBlock_unique (ho : OrdersSound s) (hs : s.ledger.Unique) (c : Command) (w : Word) :
    (commandBlock c w s).1.ledger.Unique := by
  cases c with
  | modeRun => exact (takeModeRun_keepsTags ho).unique hs
  | modeSetup => exact takeModeSetup_unique hs
  | deckReset => exact deckReset_unique s
  | headOnline => exact (takeHeadOnline_keepsTags ho.book w).unique hs
  | headOffline => exact (takeHeadOffline_keepsTags w s).unique hs
  | headRecover => exact (takeHeadRecover_keepsTags w s).unique hs
  | mask => exact (takeMask_keepsTags w s).unique hs
  | maskClear => exact (takeMaskClear_keepsTags w s).unique hs
  | drain => exact (takeDrain_keepsTags s).unique hs
  | clearTallies => exact (takeClearTallies_keepsTags s).unique hs
  | undrain | clearCapture | clearCounters => exact KeepsTags.unique (s := s) (.of_eq rfl rfl rfl) hs

theorem controlWrite_unique {block : State → State × ControlResult}
    (hblock : ∀ t, OrdersSound t → t.ledger.Unique → (block t).1.ledger.Unique) (w : Word) (ho : OrdersSound s)
    (hs : s.ledger.Unique) : (controlWrite w block s).ledger.Unique := by
  have hwritten := passWrite_keepsTags .controller controlAddr w s
  have hdone := hblock _ ((passWrite_keeps .controller controlAddr w s).sound ho) (hwritten.unique hs)
  exact KeepsTags.unique (s := (block (passWrite .controller controlAddr w s)).1) (.of_eq rfl rfl rfl) hdone

theorem writeControl_unique (ho : OrdersSound s) (hs : s.ledger.Unique) (w : Word) :
    (writeControl w s).ledger.Unique := by
  refine controlWrite_unique (fun t ht hu => ?_) w ho hs
  unfold controlAnswer
  cases controlCommand w with
  | some c => exact commandBlock_unique ht hu c w
  | none => exact hu

end

/-! ### Profile words (R22 to R25) -/

/-- In SETUP no order is CLEARED, so no tag is left to pick (R28). -/
theorem tagsLeft_of_setup {s : State} (hstill : SetupStill s) (hm : s.mode = .setup) (h : HeadIx) :
    s.book.tagsLeft h = [] := by
  refine OrderBook.tagsLeft_of_not_cleared fun hc => ?_
  have hlive := hstill.not_live hm h s.fetchIndex[h]
  rw [show (s.order h s.fetchIndex[h]).state = .cleared from hc] at hlive
  cases hlive

/-- A profile word is stored in SETUP only, where no tag is left to pick (R24). -/
theorem storeEntry_keepsTags {s : State} (ho : OrdersSound s) (hm : s.mode = .setup) (w : Word) :
    KeepsTags s (storeEntry w s) := by
  have hafter : SetupStill (storeEntry w s) := ((ordersSound_iff _).mp (storeEntry_sound w ho hm)).1
  obtain ⟨haccount, hpending, hmode⟩ : (storeEntry w s).account = s.account ∧
      (storeEntry w s).pendingTags = s.pendingTags ∧ (storeEntry w s).mode = s.mode := by
    unfold storeEntry
    cases s.counter.page <;> exact ⟨rfl, rfl, rfl⟩
  refine ⟨.of_eq haccount, hpending, funext fun h => ?_⟩
  rw [tagsLeft_of_setup hafter (hmode.trans hm), tagsLeft_of_setup ho.1 hm]

theorem writeDataWord_keepsTags {s : State} (ho : OrdersSound s) (w : Word) : KeepsTags s (writeDataWord w s) := by
  have hwritten := passWrite_keepsTags .controller profileDataAddr w s
  have hmoved : ∀ t, KeepsTags t (moveCounter (recordAtCounter .accepted t)) := fun _ => .of_eq rfl rfl rfl
  unfold writeDataWord
  cases hm : s.mode with
  | run => exact .of_eq rfl rfl rfl
  | setup =>
    dsimp only
    split_ifs
    · exact hwritten
    · have hsound := (passWrite_keeps .controller profileDataAddr w s).sound ho
      exact hwritten.trans ((storeEntry_keepsTags hsound hm w).trans (hmoved _))

theorem readDataWord_keepsTags (s : State) : KeepsTags s (readDataWord s) := by
  refine .of_eq (account_readDataWord s) ?_ (readDataWord_keeps s).book
  unfold readDataWord
  cases s.counter.overrun <;> rfl

/-! ### Socket commands (R107 to R113) -/

theorem tagOf_clearedPhase (u : UnitRec) : tagOf (clearedPhase u).unit = some u.tag := by
  unfold clearedPhase
  split_ifs <;> rfl

/-- A socket command that is accepted keeps the socket's unit with its tag, or takes it off the deck. -/
theorem socketAnswer_keepsTags {c : SocketCommand} {i : SocketIx} {w : Word} {s t : State}
    (h : socketAnswer c i w s = .accepted t) : KeepsTags s t := by
  cases c with
  | enable =>
    simp only [socketAnswer, enableSocket] at h
    split at h
    next =>
      split_ifs at h <;> cases h
      · exact (commandPhase_keepsTags (p := .fault .stray none) (.none _)).trans (captureFault_keepsTags _ _)
      · exact commandPhase_keepsTags (p := .empty) (.none _)
    next => cases h
  | disable =>
    simp only [socketAnswer, disableSocket] at h
    split at h
    next =>
      split_ifs at h
      cases h
      exact commandPhase_keepsTags (p := .disabled) (.none _)
    next => cases h
  | start =>
    simp only [socketAnswer, startTest] at h
    split at h <;> cases h
    next hp => exact changePhase_keepsTags (.of_tag (by rw [hp]; rfl))
  | result =>
    simp only [socketAnswer, giveResult] at h
    split at h
    next =>
      split at h <;> cases h
      next hp => exact changePhase_keepsTags (.of_tag (by rw [hp]; rfl))
    next => cases h
  | abort =>
    simp only [socketAnswer, abortTest] at h
    split at h <;> cases h
    next hp => exact changePhase_keepsTags (.of_tag (by rw [hp]; rfl))
  | clearFault =>
    simp only [socketAnswer, clearSocketFault] at h
    split at h
    next hp =>
      split_ifs at h
      split at h <;> cases h
      next => exact commandPhase_keepsTags (.of_tag (by rw [hp, tagOf_clearedPhase]; rfl))
      next => exact (countDiscards_keepsTags _ s).trans (commandPhase_keepsTags (p := .empty) (.none _))
    next => cases h

theorem recordSocketResult_keepsTags (i : SocketIx) (r : SocketResult) (s : State) :
    KeepsTags s (recordSocketResult i r s) :=
  .of_eq (account_recordSocketResult i r s) (setSocket_only i _ s).pendingTags (recordSocketResult_keeps i r s).book

theorem socketCommandWrite_keepsTags (i : SocketIx) (w : Word) (s : State) :
    KeepsTags s (socketCommandWrite i w s) := by
  refine (passWrite_keepsTags .controller (socketCommandAddr i) w s).trans ?_
  unfold socketCommandWrite
  cases socketWordCommand w with
  | none => exact recordSocketResult_keepsTags i _ _
  | some c =>
    dsimp only
    split
    · exact recordSocketResult_keepsTags i _ _
    · cases h : socketAnswer c i w (passWrite .controller (socketCommandAddr i) w s) with
      | accepted t => exact (socketAnswer_keepsTags h).trans (recordSocketResult_keepsTags i _ t)
      | refused r => exact recordSocketResult_keepsTags i r _

/-! ### Ring words (R41 to R54) -/

theorem setCounters_keepsTags (h : HeadIx) (c : HeadCounters) (s : State) : KeepsTags s (s.setCounters h c) :=
  .of_eq rfl rfl rfl

theorem controllerProtect_keepsTags (h : HeadIx) (k : Option SlotIx) (s : State) :
    KeepsTags s (controllerProtect h k s) :=
  .of_eq (account_controllerProtect h k s) (captureFault_only _ _).pendingTags (controllerProtect_keeps h k s).book

theorem driveProtect_keepsTags (h : HeadIx) (s : State) : KeepsTags s (driveProtect h s) :=
  .of_eq (account_driveProtect h s) (captureFault_only _ _).pendingTags (driveProtect_keeps h s).book

theorem OrderState.ne_cleared_of_not_live {o : OrderState} (h : o.live = false) : o ≠ .cleared := by
  rintro rfl
  cases h

section

variable {h : HeadIx} {k : SlotIx} {s : State}

/-- A leg is captured in a slot that is not live, which comes to FILLING (R41, R42). -/
theorem writeLeg_keepsTags (h : HeadIx) (k : SlotIx) (j : Fin 7) (w : Word) (s : State) :
    KeepsTags s (writeLeg h k j w s) := by
  unfold writeLeg
  dsimp only
  by_cases hlive : (s.order h k).state.live = true
  · rw [if_pos hlive]
    exact controllerProtect_keepsTags h _ s
  · rw [if_neg hlive]
    have hold := OrderState.ne_cleared_of_not_live (Bool.eq_false_of_not_eq_true hlive)
    have hnew : OrderState.filling ≠ .cleared := nofun
    refine (passWrite_keepsTags .controller (legAddr h k j) w s).trans ?_
    exact setOrder_keepsTags hold hnew

theorem postedState_ne_cleared (r : Option Reason) : postedState r ≠ .cleared := by
  cases r <;> exact nofun

theorem sequenceError_keepsTags (h : HeadIx) (k : SlotIx) (s : State) : KeepsTags s (sequenceError h k s) := by
  unfold sequenceError
  exact (setCounters_keepsTags h _ s).trans ((setCounters_keepsTags h _ _).trans (captureFault_keepsTags _ _))

theorem order_sequenceError (h : HeadIx) (k : SlotIx) (s : State) : (sequenceError h k s).order = s.order :=
  congrArg OrderBook.order (sequenceError_keeps h k s).book

/-- A post to a slot that is not live leaves it POSTED or REFUSED (R47, R51). -/
theorem postOrder_keepsTags (hold : (s.order h k).state ≠ .cleared) (w : Word) : KeepsTags s (postOrder h k w s) := by
  have hwritten : KeepsTags s ((passWrite .controller (headerAddr h k) w s).setExpectedSeq h (headerSeq w + 1)) :=
    .of_eq rfl rfl rfl
  have hrefused : OrderState.refused .sequence ≠ .cleared := nofun
  unfold postOrder
  dsimp only
  split_ifs
  · exact hwritten.trans ((setCounters_keepsTags h _ _).trans (setOrder_keepsTags hold (postedState_ne_cleared _)))
  · refine hwritten.trans ((sequenceError_keepsTags h k _).trans (setOrder_keepsTags ?_ hrefused))
    rw [order_sequenceError]
    exact hold

theorem withdrawOrder_keepsTags (hold : (s.order h k).state ≠ .cleared) (w : Word) :
    KeepsTags s (withdrawOrder h k w s) := by
  have hwritten := passWrite_keepsTags .controller (headerAddr h k) w s
  unfold withdrawOrder
  dsimp only
  split_ifs
  · refine hwritten.trans ((stopHolding_keepsTags h _).trans (refuseOrder_keepsTags ?_ _ _))
    rw [order_stopHolding]
    exact hold
  · exact hwritten.trans (refuseOrder_keepsTags (s := passWrite .controller (headerAddr h k) w s) hold _ _)

theorem retireOrder_keepsTags (hold : (s.order h k).state ≠ .cleared) (w : Word) :
    KeepsTags s (retireOrder h k w s) := by
  have hnew : Order.freed.state ≠ .cleared := nofun
  refine (passWrite_keepsTags .controller (headerAddr h k) w s).trans ?_
  exact setOrder_keepsTags hold hnew

theorem headerWithPost_keepsTags (h : HeadIx) (k : SlotIx) (w : Word) (s : State) :
    KeepsTags s (headerWithPost h k w s) := by
  unfold headerWithPost
  split_ifs with hlive
  · exact controllerProtect_keepsTags h _ s
  · exact postOrder_keepsTags (OrderState.ne_cleared_of_not_live (Bool.eq_false_of_not_eq_true hlive)) w

theorem headerWithoutPost_keepsTags (h : HeadIx) (k : SlotIx) (w : Word) (s : State) :
    KeepsTags s (headerWithoutPost h k w s) := by
  unfold headerWithoutPost
  cases hstate : (s.order h k).state
  case cleared => exact controllerProtect_keepsTags h _ s
  case posted | socketWait | zoneWait => exact withdrawOrder_keepsTags (by rw [hstate]; exact nofun) w
  case done | refused | aborted => exact retireOrder_keepsTags (by rw [hstate]; exact nofun) w
  case free | filling => exact passWrite_keepsTags .controller _ w s

theorem writeHeader_keepsTags (h : HeadIx) (k : SlotIx) (w : Word) (s : State) :
    KeepsTags s (writeHeader h k w s) := by
  unfold writeHeader
  cases s.mode with
  | setup => exact passWrite_keepsTags .controller _ w s
  | run =>
    dsimp only
    split_ifs
    · exact headerWithPost_keepsTags h k w s
    · exact headerWithoutPost_keepsTags h k w s

end

/-! ### Every write by the map (R4) -/

theorem writePageWord_keepsTags (w : Word) (s : State) : KeepsTags s (writePageWord w s) := .of_eq rfl rfl rfl

theorem writeAddressWord_keepsTags (w : Word) (s : State) : KeepsTags s (writeAddressWord w s) := .of_eq rfl rfl rfl

section

variable {s : State} (ho : OrdersSound s) (hs : s.ledger.Unique)
include ho hs

theorem controllerWrite_unique (a : Addr) (w : Word) : (controllerWrite a w s).ledger.Unique := by
  unfold controllerWrite
  cases regionOf a with
  | control => exact writeControl_unique ho hs w
  | profilePage => exact (writePageWord_keepsTags w s).unique hs
  | profileAddress => exact (writeAddressWord_keepsTags w s).unique hs
  | profileData => exact (writeDataWord_keepsTags ho w).unique hs
  | socketCommand i => exact (socketCommandWrite_keepsTags i w s).unique hs
  | report h => exact (controllerProtect_keepsTags h none s).unique hs
  | header h k => exact (writeHeader_keepsTags h k w s).unique hs
  | leg h k j => exact (writeLeg_keepsTags h k j w s).unique hs
  | profileResult | status | socketState | socketUnit | socketNote | disposition | unassigned | plain =>
    exact (passWrite_keepsTags .controller a.toNat w s).unique hs

theorem driveWrite_unique (h : HeadIx) (a : Addr) (w : Word) : (driveWrite h a w s).ledger.Unique := by
  unfold driveWrite
  split_ifs
  · exact (driveProtect_keepsTags h s).unique hs
  · split
    · exact writeReport_unique h w ho.book hs
    · exact (passWrite_keepsTags (.drive h) a.toNat w s).unique hs

theorem busWrite_unique (src : Source) (a : Addr) (w : Word) : (busWrite src a w s).ledger.Unique := by
  cases src with
  | controller => exact controllerWrite_unique ho hs a w
  | drive h => exact driveWrite_unique ho hs h a w

end

/-! ### Every command, and every step -/

/-- The operations of the blocks that a command can come to. -/
inductive CommandEffect (s : State) : State → Prop
  | powerOn : CommandEffect s (powerOn s)
  | tick (p : BitVec 16) (g : BitVec 8) : CommandEffect s (tickWith p g s)
  | event (e : TimedEvent) : CommandEffect s (takeEvent e s)
  | command (c : Command) (w : Word) : CommandEffect s (controlWrite w (commandBlock c w) s)
  | control (w : Word) : CommandEffect s (writeControl w s)
  | profilePage (w : Word) : CommandEffect s (writePageWord w s)
  | profileAddress (w : Word) : CommandEffect s (writeAddressWord w s)
  | profileData (w : Word) : CommandEffect s (writeDataWord w s)
  | profileRead : CommandEffect s (readDataWord s)
  | statusRead : CommandEffect s (readStatusWord0 s)
  | socket (i : SocketIx) (w : Word) : CommandEffect s (socketCommandWrite i w s)
  | leg (h : HeadIx) (k : SlotIx) (j : Fin 7) (w : Word) : CommandEffect s (writeLeg h k j w s)
  | header (h : HeadIx) (k : SlotIx) (w : Word) : CommandEffect s (writeHeader h k w s)
  | fetch (h : HeadIx) (k : SlotIx) : CommandEffect s (fetchHeader h k s)
  | report (h : HeadIx) (w : Word) : CommandEffect s (writeReport h w s)
  | driveWrite (h : HeadIx) (a : Addr) (w : Word) : CommandEffect s (driveWrite h a w s)
  | suppressed (h : HeadIx) : CommandEffect s (controllerProtect h none s)
  | bus (src : Source) (a : Addr) (w : Word) : CommandEffect s (busWrite src a w s)

/-- Every command comes to one of these operations. -/
theorem exec_effect (c : Instr) (s : State) : ∃ t, exec c s = .next t ∧ CommandEffect s t := by
  cases c
  case powerOnReset => exact ⟨_, rfl, .powerOn⟩
  case tick p g => exact ⟨_, rfl, .tick p g⟩
  case filteredLevelChange l => exact ⟨_, rfl, .event (.level l)⟩
  case holdTimerExpiry h => exact ⟨_, rfl, .event (.hold h)⟩
  case seatWindowExpiry i => exact ⟨_, rfl, .event (.seat i)⟩
  case vacateWindowExpiry i => exact ⟨_, rfl, .event (.vacate i)⟩
  case disturbanceTimerExpiry l => exact ⟨_, rfl, .event (.disturb l)⟩
  case recoverCountdownExpiry l => exact ⟨_, rfl, .event (.recover l)⟩
  case modeRun b => exact ⟨_, rfl, .command .modeRun _⟩
  case modeSetup b => exact ⟨_, rfl, .command .modeSetup _⟩
  case deckReset b => exact ⟨_, rfl, .command .deckReset _⟩
  case headOnline b => exact ⟨_, rfl, .command .headOnline _⟩
  case headOffline b => exact ⟨_, rfl, .command .headOffline _⟩
  case headRecover b => exact ⟨_, rfl, .command .headRecover _⟩
  case mask b => exact ⟨_, rfl, .command .mask _⟩
  case maskClear b => exact ⟨_, rfl, .command .maskClear _⟩
  case drain b => exact ⟨_, rfl, .command .drain _⟩
  case undrain b => exact ⟨_, rfl, .command .undrain _⟩
  case clearTallies b => exact ⟨_, rfl, .command .clearTallies _⟩
  case clearCapture b => exact ⟨_, rfl, .command .clearCapture _⟩
  case clearCounters b => exact ⟨_, rfl, .command .clearCounters _⟩
  case badCommand w => exact ⟨_, rfl, .control w⟩
  case profilePageWrite w => exact ⟨_, rfl, .profilePage w⟩
  case profileAddressWrite w => exact ⟨_, rfl, .profileAddress w⟩
  case profileDataWrite w => exact ⟨_, rfl, .profileData w⟩
  case profileDataRead => exact ⟨_, rfl, .profileRead⟩
  case statusWord0Read => exact ⟨_, rfl, .statusRead⟩
  case enable i _ | disable i _ | start i _ | result i _ | abort i _ | clearFault i _ | socketBadCommand i _ =>
    exact ⟨_, rfl, .socket i _⟩
  case legWrite h k j w => exact ⟨_, rfl, .leg h k j w⟩
  case post h k _ | withdraw h k _ | retire h k _ | headerWriteSuppressed h k _ => exact ⟨_, rfl, .header h k _⟩
  case fetch h k => exact ⟨_, rfl, .fetch h k⟩
  case legDone h _ | legFailed h _ | malformedReport h _ => exact ⟨_, rfl, .report h _⟩
  case driveProtect h a w => exact ⟨_, rfl, .driveWrite h a w⟩
  case controllerReportWrite h w => exact ⟨_, rfl, .suppressed h⟩
  case passedWrite src a w => exact ⟨_, rfl, .bus src a w⟩

/-- A step is a port clock, or the effect of a command on the state with the rest of the queue. -/
theorem step_cases {s t : State} (hstep : step s = .next t) :
    t = portClock s ∨ ∃ rest, CommandEffect { s with pending := rest } t := by
  unfold step at hstep
  split at hstep
  next =>
    cases hstep
    exact .inl rfl
  next c rest _ =>
    obtain ⟨u, hu, heffect⟩ := exec_effect c { s with pending := rest }
    rw [hu] at hstep
    cases hstep
    exact .inr ⟨rest, heffect⟩

/-- Every command keeps the tags unique. -/
theorem CommandEffect.unique {s t : State} (ht : CommandEffect s t) (ho : OrdersSound s) (hs : s.ledger.Unique) :
    t.ledger.Unique := by
  cases ht with
  | powerOn => exact powerOn_unique s
  | tick p g => exact (tickWith_keepsTags p g s).unique hs
  | event e => exact (takeEvent_keepsTags e s).unique hs
  | command c w => exact controlWrite_unique (fun _ hu hv => commandBlock_unique hu hv c w) w ho hs
  | control w => exact writeControl_unique ho hs w
  | profilePage w => exact (writePageWord_keepsTags w s).unique hs
  | profileAddress w => exact (writeAddressWord_keepsTags w s).unique hs
  | profileData w => exact (writeDataWord_keepsTags ho w).unique hs
  | profileRead => exact (readDataWord_keepsTags s).unique hs
  | statusRead => exact KeepsTags.unique (s := s) (.of_eq rfl rfl rfl) hs
  | socket i w => exact (socketCommandWrite_keepsTags i w s).unique hs
  | leg h k j w => exact (writeLeg_keepsTags h k j w s).unique hs
  | header h k w => exact (writeHeader_keepsTags h k w s).unique hs
  | fetch h k => exact fetchHeader_unique h k ho hs
  | report h w => exact writeReport_unique h w ho.book hs
  | driveWrite h a w => exact driveWrite_unique ho hs h a w
  | suppressed h => exact (controllerProtect_keepsTags h none s).unique hs
  | bus src a w => exact busWrite_unique ho hs src a w

/-- Settles O53: only a clearance, a report and a reset move tags, and they keep them unique: a clearance makes tags
pending that the DUP TAG check found free, and a report takes a tag from the pending set as its unit takes it or its
order ends. -/
theorem tagsStayUnique : Obligations.TagsStayUnique := by
  unfold Obligations.TagsStayUnique
  intro s t ho hs hstep
  rw [tagsUnique_iff] at hs ⊢
  obtain rfl | ⟨rest, heffect⟩ := step_cases hstep
  · exact (portClock_keepsTags s).unique hs
  · have hrest : OrdersSound { s with pending := rest } := KeepsOrders.sound (s := s) (.of_eq rfl rfl rfl) ho
    exact heffect.unique hrest hs

end Sys2Proof.Machine
